-- ==== Sys2Proof/Word.lean ====
section
/-! DEFINITION. The two word types of the hardware: 8-bit data and 16-bit addresses (00_scope.md R5, R8). -/

namespace Sys2Proof

/-- A byte: the width of data, of A, X, Y, S and of an opcode (R5). -/
abbrev Byte := BitVec 8

/-- An address: the width of the address bus and of PC (R5). -/
abbrev Word := BitVec 16

end Sys2Proof
end

