-- ==== Sys2Proof/Config.lean ====
section
/-! DEFINITION. The parameters of 00_scope.md R5 (CAPS, MEMCFG, INIT, DA1 to DA22) as plain data, and the free
values of decimal arithmetic: constants without a body for what the spec leaves unspecified. (The free value of a dummy
cycle's address stands in Machine/State.lean, since it is a function of the state.) -/

namespace Sys2Proof

/-- The capability groups of 00_scope.md R2, 30_encoding.md R89. -/
inductive Group where
  | base
  | bitops
  | waistp
  deriving DecidableEq, Repr

/-- CAPS: "a subset of {BASE, BITOPS, WAISTP} that contains BASE" (00_scope.md R2), so BASE has no bit of its own. -/
structure Caps where
  bitops : Bool
  waistp : Bool
  deriving DecidableEq, Repr

/-- Whether a group is in CAPS. -/
def Caps.has (c : Caps) : Group → Bool
  | .base => true
  | .bitops => c.bitops
  | .waistp => c.waistp

/-- The default of CAPS: "its default is all three" (00_scope.md R2; log 5). -/
def Caps.all : Caps := { bitops := true, waistp := true }

/-- The kind of a region of MEMCFG (20_memory.md R52). -/
inductive RegionKind where
  | ram
  | rom
  deriving DecidableEq, Repr

/-- A region `(base, size, kind)` of MEMCFG (20_memory.md R52). -/
structure Region where
  base : Nat
  size : Nat
  kind : RegionKind
  deriving DecidableEq, Repr

/-- One rule of MEMCFG.mirror as plain data: an address of `[base, base + size)` goes to `(a AND andMask) OR orMask`.
A list of such rules, the first that applies deciding, can write down every address function: a rule of size 1
with `andMask = 0` sends one address anywhere (20_memory.md R54; DESIGN CHOICE, log 10). -/
structure MirrorRule where
  base : Nat
  size : Nat
  andMask : Word
  orMask : Word
  deriving DecidableEq, Repr

/-- MEMCFG.rom_write: how a write to ROM is reported; the core does the same under both (20_memory.md R56). -/
inductive RomWrite where
  | ignore
  | reject
  deriving DecidableEq, Repr

/-- MEMCFG (00_scope.md R5, 20_memory.md R52 to R56). -/
structure MemCfg where
  regions : List Region
  fill : Byte
  mirror : List MirrorRule
  romWrite : RomWrite
  deriving DecidableEq, Repr

/-- "Suggested default for tests: one RAM region $0000 to $FFFF, fill $00", identity mirror
(92_eei_decisions.md D10; DESIGN CHOICE, log 4). -/
def MemCfg.default : MemCfg :=
  { regions := [{ base := 0, size := 0x10000, kind := .ram }], fill := 0x00#8, mirror := [], romWrite := .ignore }

/-- The dummy-cycle addresses DA1 to DA22 of 40_addressing_and_bus_cycles.md R114. -/
inductive Dummy where
  | da1 | da2 | da3 | da4 | da5 | da6 | da7 | da8 | da9 | da10 | da11
  | da12 | da13 | da14 | da15 | da16 | da17 | da18 | da19 | da20 | da21 | da22
  deriving DecidableEq, Repr

/-- How a run gives the address of a dummy cycle: an expression in the terms R114 uses, evaluated in the state of the
core at that cycle (Machine/Ops.lean `DummyAddr.eval`). `atCycle` makes it depend on the cycle index too, so that every
address can be given for every dummy cycle of a run (40_addressing_and_bus_cycles.md R114; DESIGN CHOICE, log 6). -/
inductive DummyAddr where
  /-- The default of R114 -/
  | dflt
  /-- "treat the `addr` and `data` of that BusCycle as unspecified" (R114): a free value -/
  | free
  /-- A given address -/
  | fixed (a : Word)
  /-- `PC` -/
  | pc
  /-- `EA` -/
  | ea
  /-- `$00:ZPA` -/
  | zpa
  /-- `$01:S` -/
  | stack
  /-- `ADH:ADL` -/
  | adr
  /-- `PC +16 sext_16(REL)` -/
  | target
  /-- `e +16 off`; `off = $FFFF` is `-16 1` -/
  | plus (e : DummyAddr) (off : Word)
  /-- `hi(h) : lo(l)` -/
  | join (h l : DummyAddr)
  /-- `e1` in the cycle of index `n`, `e2` in every other -/
  | atCycle (n : Nat) (e1 e2 : DummyAddr)
  deriving DecidableEq, Repr

/-- The named parameters DA1 to DA22 (00_scope.md R5, 40_addressing_and_bus_cycles.md R114), each at its default where
none is given. -/
structure DummyAddrs where
  da1 : DummyAddr := .dflt
  da2 : DummyAddr := .dflt
  da3 : DummyAddr := .dflt
  da4 : DummyAddr := .dflt
  da5 : DummyAddr := .dflt
  da6 : DummyAddr := .dflt
  da7 : DummyAddr := .dflt
  da8 : DummyAddr := .dflt
  da9 : DummyAddr := .dflt
  da10 : DummyAddr := .dflt
  da11 : DummyAddr := .dflt
  da12 : DummyAddr := .dflt
  da13 : DummyAddr := .dflt
  da14 : DummyAddr := .dflt
  da15 : DummyAddr := .dflt
  da16 : DummyAddr := .dflt
  da17 : DummyAddr := .dflt
  da18 : DummyAddr := .dflt
  da19 : DummyAddr := .dflt
  da20 : DummyAddr := .dflt
  da21 : DummyAddr := .dflt
  da22 : DummyAddr := .dflt
  deriving DecidableEq, Repr

/-- The parameter of a dummy cycle. -/
def DummyAddrs.get (p : DummyAddrs) : Dummy → DummyAddr
  | .da1 => p.da1
  | .da2 => p.da2
  | .da3 => p.da3
  | .da4 => p.da4
  | .da5 => p.da5
  | .da6 => p.da6
  | .da7 => p.da7
  | .da8 => p.da8
  | .da9 => p.da9
  | .da10 => p.da10
  | .da11 => p.da11
  | .da12 => p.da12
  | .da13 => p.da13
  | .da14 => p.da14
  | .da15 => p.da15
  | .da16 => p.da16
  | .da17 => p.da17
  | .da18 => p.da18
  | .da19 => p.da19
  | .da20 => p.da20
  | .da21 => p.da21
  | .da22 => p.da22

/-- The parameters that are fixed for a run (00_scope.md R5, 10_state.md R38). -/
structure Config where
  caps : Caps
  memcfg : MemCfg
  dummies : DummyAddrs
  deriving DecidableEq, Repr

/-- All parameters at the spec's defaults. -/
def Config.default : Config := { caps := Caps.all, memcfg := MemCfg.default, dummies := {} }

/-- INIT: the launch values of what reset leaves unspecified (10_state.md R37). -/
structure Init where
  a : Byte
  x : Byte
  y : Byte
  s : Byte
  n : Bool
  v : Bool
  z : Bool
  c : Bool
  deriving DecidableEq, Repr

/-- What a decimal ADC or SBC on operands that are not BCD leaves: every value of A, N, V, Z and C is possible
(43_alu.md R222, R224; 93_implementation_defined.md U3). -/
structure BcdOutcome where
  a : Byte
  n : Bool
  v : Bool
  z : Bool
  c : Bool
  deriving DecidableEq, Repr, Inhabited

/-- FREE VALUE (log 7): the outcome of a decimal ADC on operands that are not BCD, a function of A, M and P
(43_alu.md R222; that it is a function is R220 and 70_reset_and_hazards.md R395). -/
opaque Config.freeDecimalAdc : Byte → Byte → Byte → BcdOutcome

/-- FREE VALUE (log 7): the outcome of a decimal SBC on operands that are not BCD (43_alu.md R224). -/
opaque Config.freeDecimalSbc : Byte → Byte → Byte → BcdOutcome

end Sys2Proof
end

