-- ==== Sys2Proof/Syntax.lean ====
section
/-! DEFINITION. The instructions as syntax: one constructor for each of the 212 rows of spec/opcode_table.json
(30_encoding.md R85, R86), its operand bytes as arguments, and the addressing-mode tags (30_encoding.md R82). -/

namespace Sys2Proof

/-- The addressing-mode tags of 30_encoding.md R82. -/
inductive Mode where
  | imp | acc | imm | zp | zpx | zpy | abs | abx | aby | izx | izy | izp | rel | zprel | ind | iax
  deriving DecidableEq, Repr

/-- The tags whose operand is a byte of memory at an effective address (40_addressing_and_bus_cycles.md R115). -/
inductive DataMode where
  | zp | zpx | zpy | abs | abx | aby | izx | izy | izp
  deriving DecidableEq, Repr

/-- The length in bytes of an instruction of a mode (30_encoding.md R82). -/
def Mode.length : Mode → Nat
  | .imp => 1
  | .acc => 1
  | .imm => 2
  | .zp => 2
  | .zpx => 2
  | .zpy => 2
  | .abs => 3
  | .abx => 3
  | .aby => 3
  | .izx => 2
  | .izy => 2
  | .izp => 2
  | .rel => 2
  | .zprel => 3
  | .ind => 3
  | .iax => 3

/-- An instruction. Operand bytes: `n` immediate, `zp` zero-page address, `lo hi` address low and high byte, `off`
relative offset (30_encoding.md R81, R83, R84). -/
inductive Instr where
  /-- LDA #$nn, `$A9`, R171 -/
  | ldaImm (n : Byte)
  /-- LDA $zz, `$A5`, R171 -/
  | ldaZp (zp : Byte)
  /-- LDA $zz,X, `$B5`, R171 -/
  | ldaZpx (zp : Byte)
  /-- LDA $hhll, `$AD`, R171 -/
  | ldaAbs (lo hi : Byte)
  /-- LDA $hhll,X, `$BD`, R171 -/
  | ldaAbx (lo hi : Byte)
  /-- LDA $hhll,Y, `$B9`, R171 -/
  | ldaAby (lo hi : Byte)
  /-- LDA ($zz,X), `$A1`, R171 -/
  | ldaIzx (zp : Byte)
  /-- LDA ($zz),Y, `$B1`, R171 -/
  | ldaIzy (zp : Byte)
  /-- LDA ($zz), `$B2`, R171 -/
  | ldaIzp (zp : Byte)
  /-- LDX #$nn, `$A2`, R172 -/
  | ldxImm (n : Byte)
  /-- LDX $zz, `$A6`, R172 -/
  | ldxZp (zp : Byte)
  /-- LDX $zz,Y, `$B6`, R172 -/
  | ldxZpy (zp : Byte)
  /-- LDX $hhll, `$AE`, R172 -/
  | ldxAbs (lo hi : Byte)
  /-- LDX $hhll,Y, `$BE`, R172 -/
  | ldxAby (lo hi : Byte)
  /-- LDY #$nn, `$A0`, R173 -/
  | ldyImm (n : Byte)
  /-- LDY $zz, `$A4`, R173 -/
  | ldyZp (zp : Byte)
  /-- LDY $zz,X, `$B4`, R173 -/
  | ldyZpx (zp : Byte)
  /-- LDY $hhll, `$AC`, R173 -/
  | ldyAbs (lo hi : Byte)
  /-- LDY $hhll,X, `$BC`, R173 -/
  | ldyAbx (lo hi : Byte)
  /-- STA $zz, `$85`, R174 -/
  | staZp (zp : Byte)
  /-- STA $zz,X, `$95`, R174 -/
  | staZpx (zp : Byte)
  /-- STA $hhll, `$8D`, R174 -/
  | staAbs (lo hi : Byte)
  /-- STA $hhll,X, `$9D`, R174 -/
  | staAbx (lo hi : Byte)
  /-- STA $hhll,Y, `$99`, R174 -/
  | staAby (lo hi : Byte)
  /-- STA ($zz,X), `$81`, R174 -/
  | staIzx (zp : Byte)
  /-- STA ($zz),Y, `$91`, R174 -/
  | staIzy (zp : Byte)
  /-- STA ($zz), `$92`, R174 -/
  | staIzp (zp : Byte)
  /-- STX $zz, `$86`, R175 -/
  | stxZp (zp : Byte)
  /-- STX $zz,Y, `$96`, R175 -/
  | stxZpy (zp : Byte)
  /-- STX $hhll, `$8E`, R175 -/
  | stxAbs (lo hi : Byte)
  /-- STY $zz, `$84`, R176 -/
  | styZp (zp : Byte)
  /-- STY $zz,X, `$94`, R176 -/
  | styZpx (zp : Byte)
  /-- STY $hhll, `$8C`, R176 -/
  | styAbs (lo hi : Byte)
  /-- STZ $zz, `$64`, R177 -/
  | stzZp (zp : Byte)
  /-- STZ $zz,X, `$74`, R177 -/
  | stzZpx (zp : Byte)
  /-- STZ $hhll, `$9C`, R177 -/
  | stzAbs (lo hi : Byte)
  /-- STZ $hhll,X, `$9E`, R177 -/
  | stzAbx (lo hi : Byte)
  /-- TAX, `$AA`, R178 -/
  | tax
  /-- TAY, `$A8`, R179 -/
  | tay
  /-- TXA, `$8A`, R180 -/
  | txa
  /-- TYA, `$98`, R181 -/
  | tya
  /-- TSX, `$BA`, R182 -/
  | tsx
  /-- TXS, `$9A`, R183 -/
  | txs
  /-- PHA, `$48`, R201 -/
  | pha
  /-- PHX, `$DA`, R202 -/
  | phx
  /-- PHY, `$5A`, R203 -/
  | phy
  /-- PHP, `$08`, R204 -/
  | php
  /-- PLA, `$68`, R205 -/
  | pla
  /-- PLX, `$FA`, R206 -/
  | plx
  /-- PLY, `$7A`, R207 -/
  | ply
  /-- PLP, `$28`, R208 -/
  | plp
  /-- ADC #$nn, `$69`, R221 -/
  | adcImm (n : Byte)
  /-- ADC $zz, `$65`, R221 -/
  | adcZp (zp : Byte)
  /-- ADC $zz,X, `$75`, R221 -/
  | adcZpx (zp : Byte)
  /-- ADC $hhll, `$6D`, R221 -/
  | adcAbs (lo hi : Byte)
  /-- ADC $hhll,X, `$7D`, R221 -/
  | adcAbx (lo hi : Byte)
  /-- ADC $hhll,Y, `$79`, R221 -/
  | adcAby (lo hi : Byte)
  /-- ADC ($zz,X), `$61`, R221 -/
  | adcIzx (zp : Byte)
  /-- ADC ($zz),Y, `$71`, R221 -/
  | adcIzy (zp : Byte)
  /-- ADC ($zz), `$72`, R221 -/
  | adcIzp (zp : Byte)
  /-- SBC #$nn, `$E9`, R223 -/
  | sbcImm (n : Byte)
  /-- SBC $zz, `$E5`, R223 -/
  | sbcZp (zp : Byte)
  /-- SBC $zz,X, `$F5`, R223 -/
  | sbcZpx (zp : Byte)
  /-- SBC $hhll, `$ED`, R223 -/
  | sbcAbs (lo hi : Byte)
  /-- SBC $hhll,X, `$FD`, R223 -/
  | sbcAbx (lo hi : Byte)
  /-- SBC $hhll,Y, `$F9`, R223 -/
  | sbcAby (lo hi : Byte)
  /-- SBC ($zz,X), `$E1`, R223 -/
  | sbcIzx (zp : Byte)
  /-- SBC ($zz),Y, `$F1`, R223 -/
  | sbcIzy (zp : Byte)
  /-- SBC ($zz), `$F2`, R223 -/
  | sbcIzp (zp : Byte)
  /-- AND #$nn, `$29`, R225 -/
  | andImm (n : Byte)
  /-- AND $zz, `$25`, R225 -/
  | andZp (zp : Byte)
  /-- AND $zz,X, `$35`, R225 -/
  | andZpx (zp : Byte)
  /-- AND $hhll, `$2D`, R225 -/
  | andAbs (lo hi : Byte)
  /-- AND $hhll,X, `$3D`, R225 -/
  | andAbx (lo hi : Byte)
  /-- AND $hhll,Y, `$39`, R225 -/
  | andAby (lo hi : Byte)
  /-- AND ($zz,X), `$21`, R225 -/
  | andIzx (zp : Byte)
  /-- AND ($zz),Y, `$31`, R225 -/
  | andIzy (zp : Byte)
  /-- AND ($zz), `$32`, R225 -/
  | andIzp (zp : Byte)
  /-- ORA #$nn, `$09`, R226 -/
  | oraImm (n : Byte)
  /-- ORA $zz, `$05`, R226 -/
  | oraZp (zp : Byte)
  /-- ORA $zz,X, `$15`, R226 -/
  | oraZpx (zp : Byte)
  /-- ORA $hhll, `$0D`, R226 -/
  | oraAbs (lo hi : Byte)
  /-- ORA $hhll,X, `$1D`, R226 -/
  | oraAbx (lo hi : Byte)
  /-- ORA $hhll,Y, `$19`, R226 -/
  | oraAby (lo hi : Byte)
  /-- ORA ($zz,X), `$01`, R226 -/
  | oraIzx (zp : Byte)
  /-- ORA ($zz),Y, `$11`, R226 -/
  | oraIzy (zp : Byte)
  /-- ORA ($zz), `$12`, R226 -/
  | oraIzp (zp : Byte)
  /-- EOR #$nn, `$49`, R227 -/
  | eorImm (n : Byte)
  /-- EOR $zz, `$45`, R227 -/
  | eorZp (zp : Byte)
  /-- EOR $zz,X, `$55`, R227 -/
  | eorZpx (zp : Byte)
  /-- EOR $hhll, `$4D`, R227 -/
  | eorAbs (lo hi : Byte)
  /-- EOR $hhll,X, `$5D`, R227 -/
  | eorAbx (lo hi : Byte)
  /-- EOR $hhll,Y, `$59`, R227 -/
  | eorAby (lo hi : Byte)
  /-- EOR ($zz,X), `$41`, R227 -/
  | eorIzx (zp : Byte)
  /-- EOR ($zz),Y, `$51`, R227 -/
  | eorIzy (zp : Byte)
  /-- EOR ($zz), `$52`, R227 -/
  | eorIzp (zp : Byte)
  /-- CMP #$nn, `$C9`, R228 -/
  | cmpImm (n : Byte)
  /-- CMP $zz, `$C5`, R228 -/
  | cmpZp (zp : Byte)
  /-- CMP $zz,X, `$D5`, R228 -/
  | cmpZpx (zp : Byte)
  /-- CMP $hhll, `$CD`, R228 -/
  | cmpAbs (lo hi : Byte)
  /-- CMP $hhll,X, `$DD`, R228 -/
  | cmpAbx (lo hi : Byte)
  /-- CMP $hhll,Y, `$D9`, R228 -/
  | cmpAby (lo hi : Byte)
  /-- CMP ($zz,X), `$C1`, R228 -/
  | cmpIzx (zp : Byte)
  /-- CMP ($zz),Y, `$D1`, R228 -/
  | cmpIzy (zp : Byte)
  /-- CMP ($zz), `$D2`, R228 -/
  | cmpIzp (zp : Byte)
  /-- CPX #$nn, `$E0`, R229 -/
  | cpxImm (n : Byte)
  /-- CPX $zz, `$E4`, R229 -/
  | cpxZp (zp : Byte)
  /-- CPX $hhll, `$EC`, R229 -/
  | cpxAbs (lo hi : Byte)
  /-- CPY #$nn, `$C0`, R230 -/
  | cpyImm (n : Byte)
  /-- CPY $zz, `$C4`, R230 -/
  | cpyZp (zp : Byte)
  /-- CPY $hhll, `$CC`, R230 -/
  | cpyAbs (lo hi : Byte)
  /-- BIT #$nn, `$89`, R231 -/
  | bitImm (n : Byte)
  /-- BIT $zz, `$24`, R231 -/
  | bitZp (zp : Byte)
  /-- BIT $zz,X, `$34`, R231 -/
  | bitZpx (zp : Byte)
  /-- BIT $hhll, `$2C`, R231 -/
  | bitAbs (lo hi : Byte)
  /-- BIT $hhll,X, `$3C`, R231 -/
  | bitAbx (lo hi : Byte)
  /-- ASL A, `$0A`, R251 -/
  | aslAcc
  /-- ASL $zz, `$06`, R251 -/
  | aslZp (zp : Byte)
  /-- ASL $zz,X, `$16`, R251 -/
  | aslZpx (zp : Byte)
  /-- ASL $hhll, `$0E`, R251 -/
  | aslAbs (lo hi : Byte)
  /-- ASL $hhll,X, `$1E`, R251 -/
  | aslAbx (lo hi : Byte)
  /-- LSR A, `$4A`, R252 -/
  | lsrAcc
  /-- LSR $zz, `$46`, R252 -/
  | lsrZp (zp : Byte)
  /-- LSR $zz,X, `$56`, R252 -/
  | lsrZpx (zp : Byte)
  /-- LSR $hhll, `$4E`, R252 -/
  | lsrAbs (lo hi : Byte)
  /-- LSR $hhll,X, `$5E`, R252 -/
  | lsrAbx (lo hi : Byte)
  /-- ROL A, `$2A`, R253 -/
  | rolAcc
  /-- ROL $zz, `$26`, R253 -/
  | rolZp (zp : Byte)
  /-- ROL $zz,X, `$36`, R253 -/
  | rolZpx (zp : Byte)
  /-- ROL $hhll, `$2E`, R253 -/
  | rolAbs (lo hi : Byte)
  /-- ROL $hhll,X, `$3E`, R253 -/
  | rolAbx (lo hi : Byte)
  /-- ROR A, `$6A`, R254 -/
  | rorAcc
  /-- ROR $zz, `$66`, R254 -/
  | rorZp (zp : Byte)
  /-- ROR $zz,X, `$76`, R254 -/
  | rorZpx (zp : Byte)
  /-- ROR $hhll, `$6E`, R254 -/
  | rorAbs (lo hi : Byte)
  /-- ROR $hhll,X, `$7E`, R254 -/
  | rorAbx (lo hi : Byte)
  /-- INC A, `$1A`, R255 -/
  | incAcc
  /-- INC $zz, `$E6`, R255 -/
  | incZp (zp : Byte)
  /-- INC $zz,X, `$F6`, R255 -/
  | incZpx (zp : Byte)
  /-- INC $hhll, `$EE`, R255 -/
  | incAbs (lo hi : Byte)
  /-- INC $hhll,X, `$FE`, R255 -/
  | incAbx (lo hi : Byte)
  /-- DEC A, `$3A`, R256 -/
  | decAcc
  /-- DEC $zz, `$C6`, R256 -/
  | decZp (zp : Byte)
  /-- DEC $zz,X, `$D6`, R256 -/
  | decZpx (zp : Byte)
  /-- DEC $hhll, `$CE`, R256 -/
  | decAbs (lo hi : Byte)
  /-- DEC $hhll,X, `$DE`, R256 -/
  | decAbx (lo hi : Byte)
  /-- INX, `$E8`, R257 -/
  | inx
  /-- INY, `$C8`, R258 -/
  | iny
  /-- DEX, `$CA`, R259 -/
  | dex
  /-- DEY, `$88`, R260 -/
  | dey
  /-- TSB $zz, `$04`, R261 -/
  | tsbZp (zp : Byte)
  /-- TSB $hhll, `$0C`, R261 -/
  | tsbAbs (lo hi : Byte)
  /-- TRB $zz, `$14`, R262 -/
  | trbZp (zp : Byte)
  /-- TRB $hhll, `$1C`, R262 -/
  | trbAbs (lo hi : Byte)
  /-- RMB0 $zz, `$07`, R263 -/
  | rmb0 (zp : Byte)
  /-- RMB1 $zz, `$17`, R263 -/
  | rmb1 (zp : Byte)
  /-- RMB2 $zz, `$27`, R263 -/
  | rmb2 (zp : Byte)
  /-- RMB3 $zz, `$37`, R263 -/
  | rmb3 (zp : Byte)
  /-- RMB4 $zz, `$47`, R263 -/
  | rmb4 (zp : Byte)
  /-- RMB5 $zz, `$57`, R263 -/
  | rmb5 (zp : Byte)
  /-- RMB6 $zz, `$67`, R263 -/
  | rmb6 (zp : Byte)
  /-- RMB7 $zz, `$77`, R263 -/
  | rmb7 (zp : Byte)
  /-- SMB0 $zz, `$87`, R264 -/
  | smb0 (zp : Byte)
  /-- SMB1 $zz, `$97`, R264 -/
  | smb1 (zp : Byte)
  /-- SMB2 $zz, `$A7`, R264 -/
  | smb2 (zp : Byte)
  /-- SMB3 $zz, `$B7`, R264 -/
  | smb3 (zp : Byte)
  /-- SMB4 $zz, `$C7`, R264 -/
  | smb4 (zp : Byte)
  /-- SMB5 $zz, `$D7`, R264 -/
  | smb5 (zp : Byte)
  /-- SMB6 $zz, `$E7`, R264 -/
  | smb6 (zp : Byte)
  /-- SMB7 $zz, `$F7`, R264 -/
  | smb7 (zp : Byte)
  /-- BCC label, `$90`, R281 -/
  | bcc (off : Byte)
  /-- BCS label, `$B0`, R282 -/
  | bcs (off : Byte)
  /-- BEQ label, `$F0`, R283 -/
  | beq (off : Byte)
  /-- BNE label, `$D0`, R284 -/
  | bne (off : Byte)
  /-- BMI label, `$30`, R285 -/
  | bmi (off : Byte)
  /-- BPL label, `$10`, R286 -/
  | bpl (off : Byte)
  /-- BVC label, `$50`, R287 -/
  | bvc (off : Byte)
  /-- BVS label, `$70`, R288 -/
  | bvs (off : Byte)
  /-- BRA label, `$80`, R289 -/
  | bra (off : Byte)
  /-- BBR0 $zz,label, `$0F`, R290 -/
  | bbr0 (zp off : Byte)
  /-- BBR1 $zz,label, `$1F`, R290 -/
  | bbr1 (zp off : Byte)
  /-- BBR2 $zz,label, `$2F`, R290 -/
  | bbr2 (zp off : Byte)
  /-- BBR3 $zz,label, `$3F`, R290 -/
  | bbr3 (zp off : Byte)
  /-- BBR4 $zz,label, `$4F`, R290 -/
  | bbr4 (zp off : Byte)
  /-- BBR5 $zz,label, `$5F`, R290 -/
  | bbr5 (zp off : Byte)
  /-- BBR6 $zz,label, `$6F`, R290 -/
  | bbr6 (zp off : Byte)
  /-- BBR7 $zz,label, `$7F`, R290 -/
  | bbr7 (zp off : Byte)
  /-- BBS0 $zz,label, `$8F`, R291 -/
  | bbs0 (zp off : Byte)
  /-- BBS1 $zz,label, `$9F`, R291 -/
  | bbs1 (zp off : Byte)
  /-- BBS2 $zz,label, `$AF`, R291 -/
  | bbs2 (zp off : Byte)
  /-- BBS3 $zz,label, `$BF`, R291 -/
  | bbs3 (zp off : Byte)
  /-- BBS4 $zz,label, `$CF`, R291 -/
  | bbs4 (zp off : Byte)
  /-- BBS5 $zz,label, `$DF`, R291 -/
  | bbs5 (zp off : Byte)
  /-- BBS6 $zz,label, `$EF`, R291 -/
  | bbs6 (zp off : Byte)
  /-- BBS7 $zz,label, `$FF`, R291 -/
  | bbs7 (zp off : Byte)
  /-- JMP $hhll, `$4C`, R292 -/
  | jmpAbs (lo hi : Byte)
  /-- JMP ($hhll), `$6C`, R293 -/
  | jmpInd (lo hi : Byte)
  /-- JMP ($hhll,X), `$7C`, R294 -/
  | jmpIax (lo hi : Byte)
  /-- JSR $hhll, `$20`, R295 -/
  | jsr (lo hi : Byte)
  /-- RTS, `$60`, R296 -/
  | rts
  /-- CLC, `$18`, R311 -/
  | clc
  /-- SEC, `$38`, R312 -/
  | sec
  /-- CLD, `$D8`, R313 -/
  | cld
  /-- SED, `$F8`, R314 -/
  | sed
  /-- CLI, `$58`, R315 -/
  | cli
  /-- SEI, `$78`, R316 -/
  | sei
  /-- CLV, `$B8`, R317 -/
  | clv
  /-- BRK, `$00`, R318 -/
  | brk
  /-- RTI, `$40`, R319 -/
  | rti
  /-- NOP, `$EA`, R320 -/
  | nop
  /-- WAI, `$CB`, R321 -/
  | wai
  /-- STP, `$DB`, R322 -/
  | stp
  deriving DecidableEq, Repr

/-- The addressing-mode tag of an instruction: the `format` of its row (30_encoding.md R82, R87). -/
def Instr.mode : Instr → Mode
  | .ldaImm _ => .imm
  | .ldaZp _ => .zp
  | .ldaZpx _ => .zpx
  | .ldaAbs _ _ => .abs
  | .ldaAbx _ _ => .abx
  | .ldaAby _ _ => .aby
  | .ldaIzx _ => .izx
  | .ldaIzy _ => .izy
  | .ldaIzp _ => .izp
  | .ldxImm _ => .imm
  | .ldxZp _ => .zp
  | .ldxZpy _ => .zpy
  | .ldxAbs _ _ => .abs
  | .ldxAby _ _ => .aby
  | .ldyImm _ => .imm
  | .ldyZp _ => .zp
  | .ldyZpx _ => .zpx
  | .ldyAbs _ _ => .abs
  | .ldyAbx _ _ => .abx
  | .staZp _ => .zp
  | .staZpx _ => .zpx
  | .staAbs _ _ => .abs
  | .staAbx _ _ => .abx
  | .staAby _ _ => .aby
  | .staIzx _ => .izx
  | .staIzy _ => .izy
  | .staIzp _ => .izp
  | .stxZp _ => .zp
  | .stxZpy _ => .zpy
  | .stxAbs _ _ => .abs
  | .styZp _ => .zp
  | .styZpx _ => .zpx
  | .styAbs _ _ => .abs
  | .stzZp _ => .zp
  | .stzZpx _ => .zpx
  | .stzAbs _ _ => .abs
  | .stzAbx _ _ => .abx
  | .tax => .imp
  | .tay => .imp
  | .txa => .imp
  | .tya => .imp
  | .tsx => .imp
  | .txs => .imp
  | .pha => .imp
  | .phx => .imp
  | .phy => .imp
  | .php => .imp
  | .pla => .imp
  | .plx => .imp
  | .ply => .imp
  | .plp => .imp
  | .adcImm _ => .imm
  | .adcZp _ => .zp
  | .adcZpx _ => .zpx
  | .adcAbs _ _ => .abs
  | .adcAbx _ _ => .abx
  | .adcAby _ _ => .aby
  | .adcIzx _ => .izx
  | .adcIzy _ => .izy
  | .adcIzp _ => .izp
  | .sbcImm _ => .imm
  | .sbcZp _ => .zp
  | .sbcZpx _ => .zpx
  | .sbcAbs _ _ => .abs
  | .sbcAbx _ _ => .abx
  | .sbcAby _ _ => .aby
  | .sbcIzx _ => .izx
  | .sbcIzy _ => .izy
  | .sbcIzp _ => .izp
  | .andImm _ => .imm
  | .andZp _ => .zp
  | .andZpx _ => .zpx
  | .andAbs _ _ => .abs
  | .andAbx _ _ => .abx
  | .andAby _ _ => .aby
  | .andIzx _ => .izx
  | .andIzy _ => .izy
  | .andIzp _ => .izp
  | .oraImm _ => .imm
  | .oraZp _ => .zp
  | .oraZpx _ => .zpx
  | .oraAbs _ _ => .abs
  | .oraAbx _ _ => .abx
  | .oraAby _ _ => .aby
  | .oraIzx _ => .izx
  | .oraIzy _ => .izy
  | .oraIzp _ => .izp
  | .eorImm _ => .imm
  | .eorZp _ => .zp
  | .eorZpx _ => .zpx
  | .eorAbs _ _ => .abs
  | .eorAbx _ _ => .abx
  | .eorAby _ _ => .aby
  | .eorIzx _ => .izx
  | .eorIzy _ => .izy
  | .eorIzp _ => .izp
  | .cmpImm _ => .imm
  | .cmpZp _ => .zp
  | .cmpZpx _ => .zpx
  | .cmpAbs _ _ => .abs
  | .cmpAbx _ _ => .abx
  | .cmpAby _ _ => .aby
  | .cmpIzx _ => .izx
  | .cmpIzy _ => .izy
  | .cmpIzp _ => .izp
  | .cpxImm _ => .imm
  | .cpxZp _ => .zp
  | .cpxAbs _ _ => .abs
  | .cpyImm _ => .imm
  | .cpyZp _ => .zp
  | .cpyAbs _ _ => .abs
  | .bitImm _ => .imm
  | .bitZp _ => .zp
  | .bitZpx _ => .zpx
  | .bitAbs _ _ => .abs
  | .bitAbx _ _ => .abx
  | .aslAcc => .acc
  | .aslZp _ => .zp
  | .aslZpx _ => .zpx
  | .aslAbs _ _ => .abs
  | .aslAbx _ _ => .abx
  | .lsrAcc => .acc
  | .lsrZp _ => .zp
  | .lsrZpx _ => .zpx
  | .lsrAbs _ _ => .abs
  | .lsrAbx _ _ => .abx
  | .rolAcc => .acc
  | .rolZp _ => .zp
  | .rolZpx _ => .zpx
  | .rolAbs _ _ => .abs
  | .rolAbx _ _ => .abx
  | .rorAcc => .acc
  | .rorZp _ => .zp
  | .rorZpx _ => .zpx
  | .rorAbs _ _ => .abs
  | .rorAbx _ _ => .abx
  | .incAcc => .acc
  | .incZp _ => .zp
  | .incZpx _ => .zpx
  | .incAbs _ _ => .abs
  | .incAbx _ _ => .abx
  | .decAcc => .acc
  | .decZp _ => .zp
  | .decZpx _ => .zpx
  | .decAbs _ _ => .abs
  | .decAbx _ _ => .abx
  | .inx => .imp
  | .iny => .imp
  | .dex => .imp
  | .dey => .imp
  | .tsbZp _ => .zp
  | .tsbAbs _ _ => .abs
  | .trbZp _ => .zp
  | .trbAbs _ _ => .abs
  | .rmb0 _ => .zp
  | .rmb1 _ => .zp
  | .rmb2 _ => .zp
  | .rmb3 _ => .zp
  | .rmb4 _ => .zp
  | .rmb5 _ => .zp
  | .rmb6 _ => .zp
  | .rmb7 _ => .zp
  | .smb0 _ => .zp
  | .smb1 _ => .zp
  | .smb2 _ => .zp
  | .smb3 _ => .zp
  | .smb4 _ => .zp
  | .smb5 _ => .zp
  | .smb6 _ => .zp
  | .smb7 _ => .zp
  | .bcc _ => .rel
  | .bcs _ => .rel
  | .beq _ => .rel
  | .bne _ => .rel
  | .bmi _ => .rel
  | .bpl _ => .rel
  | .bvc _ => .rel
  | .bvs _ => .rel
  | .bra _ => .rel
  | .bbr0 _ _ => .zprel
  | .bbr1 _ _ => .zprel
  | .bbr2 _ _ => .zprel
  | .bbr3 _ _ => .zprel
  | .bbr4 _ _ => .zprel
  | .bbr5 _ _ => .zprel
  | .bbr6 _ _ => .zprel
  | .bbr7 _ _ => .zprel
  | .bbs0 _ _ => .zprel
  | .bbs1 _ _ => .zprel
  | .bbs2 _ _ => .zprel
  | .bbs3 _ _ => .zprel
  | .bbs4 _ _ => .zprel
  | .bbs5 _ _ => .zprel
  | .bbs6 _ _ => .zprel
  | .bbs7 _ _ => .zprel
  | .jmpAbs _ _ => .abs
  | .jmpInd _ _ => .ind
  | .jmpIax _ _ => .iax
  | .jsr _ _ => .abs
  | .rts => .imp
  | .clc => .imp
  | .sec => .imp
  | .cld => .imp
  | .sed => .imp
  | .cli => .imp
  | .sei => .imp
  | .clv => .imp
  | .brk => .imp
  | .rti => .imp
  | .nop => .imp
  | .wai => .imp
  | .stp => .imp

/-- The length of an instruction in bytes (30_encoding.md R80, R82). BRK is encoded as one byte (R92). -/
def Instr.length (i : Instr) : Nat := i.mode.length

end Sys2Proof
end

