-- ==== Sys2Proof/Machine/Bits.lean ====
section
/-! DEFINITION. Bit fields, byte order and extension (00_scope.md R8, R9; 20_memory.md R61). -/

namespace Sys2Proof.Machine

/-- `hi:lo`, "the 16-bit value with `hi` in bits 15 to 8 and `lo` in bits 7 to 0" (R8). -/
def wordOf (hi lo : Byte) : Word := hi ++ lo

/-- `hi(w) = w[15:8]` (R9). -/
def hiByte (w : Word) : Byte := w.extractLsb' 8 8

/-- `lo(w) = w[7:0]` (R9). -/
def loByte (w : Word) : Byte := w.extractLsb' 0 8

/-- `zext_16(v)` (R9). -/
def zext16 (v : Byte) : Word := v.setWidth 16

/-- `sext_16(v)`: `v[7]` copied to bits 15 to 8 (R9). -/
def sext16 (v : Byte) : Word := v.signExtend 16

/-- `v[i]`, bit `i` of a byte, bit 0 the least significant (R8). -/
def bitOf (v : Byte) (i : Nat) : Bool := v.getLsbD i

/-- The byte `1 << n`, for the bit-number field of 30_encoding.md R88. -/
def bitMask (n : Nat) : Byte := 1#8 <<< n

end Sys2Proof.Machine
end

