-- ==== Sys2Proof/Machine/Memory.lean ====
section
/-! DEFINITION. The backing array as a list of cells in one canonical form, and the memory policy over it:
mirroring, regions, `MemRead` and `MemWrite` (20_memory.md R51 to R56). -/

namespace Sys2Proof.Machine

/-- The backing array `mem` of 65536 bytes (20_memory.md R51): the bytes that differ from `Memory.unlisted`. -/
abbrev Memory := List Host.Cell

/-- What a byte that nothing has loaded or stored reads as. The spec gives no launch value (20_memory.md R53,
93_implementation_defined.md U4); 95_test_vectors.md takes $00 ("every byte not given is $00"). DESIGN CHOICE, log 3. -/
def Memory.unlisted : Byte := 0x00#8

/-- The array byte at an index. -/
def Memory.read (m : Memory) (a : Nat) : Byte :=
  match m with
  | [] => Memory.unlisted
  | c :: m' => if c.1 = a then c.2 else Memory.read m' a

/-- The array with the byte at `a` back at `Memory.unlisted`. -/
def Memory.erase (m : Memory) (a : Nat) : Memory :=
  match m with
  | [] => []
  | c :: m' => if c.1 = a then Memory.erase m' a else c :: Memory.erase m' a

/-- `(a, v)` put before the first cell of a larger index. -/
def Memory.place (m : Memory) (a : Nat) (v : Byte) : Memory :=
  match m with
  | [] => [(a, v)]
  | c :: m' => if a < c.1 then (a, v) :: c :: m' else c :: Memory.place m' a v

/-- The array with `v` at index `a`, in canonical form. -/
def Memory.write (m : Memory) (a : Nat) (v : Byte) : Memory :=
  if v = Memory.unlisted then m.erase a else (m.erase a).place a v

/-- The canonical form: indexes strictly rising and below 65536, no cell equal to what an unlisted index reads as. -/
def Memory.wf (m : Memory) : Bool :=
  match m with
  | [] => true
  | c :: m' =>
    decide (c.2 ≠ Memory.unlisted) && decide (c.1 < 0x10000) && m'.all (fun d => decide (c.1 < d.1)) && Memory.wf m'

/-- Bytes loaded one after another from an index upwards, modulo 65536. -/
def Memory.load (m : Memory) (a : Word) (bs : List Byte) : Memory :=
  match bs with
  | [] => m
  | b :: bs' => Memory.load (m.write a.toNat b) (a + 1#16) bs'

/-- Whether a mirror rule is about an address. -/
def mirrorApplies (r : MirrorRule) (a : Word) : Bool :=
  decide (r.base ≤ a.toNat) && decide (a.toNat < r.base + r.size)

/-- `MEMCFG.mirror(a)` under a list of rules: the first rule about the address decides (20_memory.md R54). -/
def mirrorBy (rules : List MirrorRule) (a : Word) : Word :=
  match rules with
  | [] => a
  | r :: rs => if mirrorApplies r a then (a &&& r.andMask) ||| r.orMask else mirrorBy rs a

/-- `MEMCFG.mirror(a)`; the default is the identity (20_memory.md R54). -/
def mirrorAddr (c : MemCfg) (a : Word) : Word := mirrorBy c.mirror a

/-- Whether a region holds an address. -/
def regionHolds (r : Region) (a : Word) : Bool :=
  decide (r.base ≤ a.toNat) && decide (a.toNat < r.base + r.size)

/-- The kind of the region an address lies in, `none` for an unmapped one (20_memory.md R52; overlaps: log 19). -/
def kindIn (rs : List Region) (a : Word) : Option RegionKind :=
  match rs with
  | [] => none
  | r :: rs' => if regionHolds r a then some r.kind else kindIn rs' a

/-- The kind of the region of an address the core puts out, after `mirror`. -/
def regionKind (c : MemCfg) (a : Word) : Option RegionKind := kindIn c.regions (mirrorAddr c a)

/-- The value of `MemRead(addr, 1)` (20_memory.md R55). -/
def readByte (c : MemCfg) (m : Memory) (a : Word) : Byte :=
  match regionKind c a with
  | some _ => m.read (mirrorAddr c a).toNat
  | none => c.fill

/-- The array after `MemWrite(addr, 1, v)` (20_memory.md R56). -/
def storeByte (c : MemCfg) (m : Memory) (a : Word) (v : Byte) : Memory :=
  match regionKind c a with
  | some .ram => m.write (mirrorAddr c a).toNat v
  | some .rom => m
  | none => m

end Sys2Proof.Machine
end

