-- ==== Sys2Proof/WellFormed.lean ====
section
/-! DEFINITION. What is well formed: an instruction under a capability set (00_scope.md R2, 30_encoding.md R89, R91),
and a memory configuration (20_memory.md R52, R54). Operand bytes have no reserved values (R91), so an instruction
is ill formed only where its capability group is absent. -/

namespace Sys2Proof

/-- The capability group of an instruction: the `group` of its row (30_encoding.md R89). -/
def Instr.group : Instr → Group
  | .ldaImm _ => .base
  | .ldaZp _ => .base
  | .ldaZpx _ => .base
  | .ldaAbs _ _ => .base
  | .ldaAbx _ _ => .base
  | .ldaAby _ _ => .base
  | .ldaIzx _ => .base
  | .ldaIzy _ => .base
  | .ldaIzp _ => .base
  | .ldxImm _ => .base
  | .ldxZp _ => .base
  | .ldxZpy _ => .base
  | .ldxAbs _ _ => .base
  | .ldxAby _ _ => .base
  | .ldyImm _ => .base
  | .ldyZp _ => .base
  | .ldyZpx _ => .base
  | .ldyAbs _ _ => .base
  | .ldyAbx _ _ => .base
  | .staZp _ => .base
  | .staZpx _ => .base
  | .staAbs _ _ => .base
  | .staAbx _ _ => .base
  | .staAby _ _ => .base
  | .staIzx _ => .base
  | .staIzy _ => .base
  | .staIzp _ => .base
  | .stxZp _ => .base
  | .stxZpy _ => .base
  | .stxAbs _ _ => .base
  | .styZp _ => .base
  | .styZpx _ => .base
  | .styAbs _ _ => .base
  | .stzZp _ => .base
  | .stzZpx _ => .base
  | .stzAbs _ _ => .base
  | .stzAbx _ _ => .base
  | .tax => .base
  | .tay => .base
  | .txa => .base
  | .tya => .base
  | .tsx => .base
  | .txs => .base
  | .pha => .base
  | .phx => .base
  | .phy => .base
  | .php => .base
  | .pla => .base
  | .plx => .base
  | .ply => .base
  | .plp => .base
  | .adcImm _ => .base
  | .adcZp _ => .base
  | .adcZpx _ => .base
  | .adcAbs _ _ => .base
  | .adcAbx _ _ => .base
  | .adcAby _ _ => .base
  | .adcIzx _ => .base
  | .adcIzy _ => .base
  | .adcIzp _ => .base
  | .sbcImm _ => .base
  | .sbcZp _ => .base
  | .sbcZpx _ => .base
  | .sbcAbs _ _ => .base
  | .sbcAbx _ _ => .base
  | .sbcAby _ _ => .base
  | .sbcIzx _ => .base
  | .sbcIzy _ => .base
  | .sbcIzp _ => .base
  | .andImm _ => .base
  | .andZp _ => .base
  | .andZpx _ => .base
  | .andAbs _ _ => .base
  | .andAbx _ _ => .base
  | .andAby _ _ => .base
  | .andIzx _ => .base
  | .andIzy _ => .base
  | .andIzp _ => .base
  | .oraImm _ => .base
  | .oraZp _ => .base
  | .oraZpx _ => .base
  | .oraAbs _ _ => .base
  | .oraAbx _ _ => .base
  | .oraAby _ _ => .base
  | .oraIzx _ => .base
  | .oraIzy _ => .base
  | .oraIzp _ => .base
  | .eorImm _ => .base
  | .eorZp _ => .base
  | .eorZpx _ => .base
  | .eorAbs _ _ => .base
  | .eorAbx _ _ => .base
  | .eorAby _ _ => .base
  | .eorIzx _ => .base
  | .eorIzy _ => .base
  | .eorIzp _ => .base
  | .cmpImm _ => .base
  | .cmpZp _ => .base
  | .cmpZpx _ => .base
  | .cmpAbs _ _ => .base
  | .cmpAbx _ _ => .base
  | .cmpAby _ _ => .base
  | .cmpIzx _ => .base
  | .cmpIzy _ => .base
  | .cmpIzp _ => .base
  | .cpxImm _ => .base
  | .cpxZp _ => .base
  | .cpxAbs _ _ => .base
  | .cpyImm _ => .base
  | .cpyZp _ => .base
  | .cpyAbs _ _ => .base
  | .bitImm _ => .base
  | .bitZp _ => .base
  | .bitZpx _ => .base
  | .bitAbs _ _ => .base
  | .bitAbx _ _ => .base
  | .aslAcc => .base
  | .aslZp _ => .base
  | .aslZpx _ => .base
  | .aslAbs _ _ => .base
  | .aslAbx _ _ => .base
  | .lsrAcc => .base
  | .lsrZp _ => .base
  | .lsrZpx _ => .base
  | .lsrAbs _ _ => .base
  | .lsrAbx _ _ => .base
  | .rolAcc => .base
  | .rolZp _ => .base
  | .rolZpx _ => .base
  | .rolAbs _ _ => .base
  | .rolAbx _ _ => .base
  | .rorAcc => .base
  | .rorZp _ => .base
  | .rorZpx _ => .base
  | .rorAbs _ _ => .base
  | .rorAbx _ _ => .base
  | .incAcc => .base
  | .incZp _ => .base
  | .incZpx _ => .base
  | .incAbs _ _ => .base
  | .incAbx _ _ => .base
  | .decAcc => .base
  | .decZp _ => .base
  | .decZpx _ => .base
  | .decAbs _ _ => .base
  | .decAbx _ _ => .base
  | .inx => .base
  | .iny => .base
  | .dex => .base
  | .dey => .base
  | .tsbZp _ => .base
  | .tsbAbs _ _ => .base
  | .trbZp _ => .base
  | .trbAbs _ _ => .base
  | .rmb0 _ => .bitops
  | .rmb1 _ => .bitops
  | .rmb2 _ => .bitops
  | .rmb3 _ => .bitops
  | .rmb4 _ => .bitops
  | .rmb5 _ => .bitops
  | .rmb6 _ => .bitops
  | .rmb7 _ => .bitops
  | .smb0 _ => .bitops
  | .smb1 _ => .bitops
  | .smb2 _ => .bitops
  | .smb3 _ => .bitops
  | .smb4 _ => .bitops
  | .smb5 _ => .bitops
  | .smb6 _ => .bitops
  | .smb7 _ => .bitops
  | .bcc _ => .base
  | .bcs _ => .base
  | .beq _ => .base
  | .bne _ => .base
  | .bmi _ => .base
  | .bpl _ => .base
  | .bvc _ => .base
  | .bvs _ => .base
  | .bra _ => .base
  | .bbr0 _ _ => .bitops
  | .bbr1 _ _ => .bitops
  | .bbr2 _ _ => .bitops
  | .bbr3 _ _ => .bitops
  | .bbr4 _ _ => .bitops
  | .bbr5 _ _ => .bitops
  | .bbr6 _ _ => .bitops
  | .bbr7 _ _ => .bitops
  | .bbs0 _ _ => .bitops
  | .bbs1 _ _ => .bitops
  | .bbs2 _ _ => .bitops
  | .bbs3 _ _ => .bitops
  | .bbs4 _ _ => .bitops
  | .bbs5 _ _ => .bitops
  | .bbs6 _ _ => .bitops
  | .bbs7 _ _ => .bitops
  | .jmpAbs _ _ => .base
  | .jmpInd _ _ => .base
  | .jmpIax _ _ => .base
  | .jsr _ _ => .base
  | .rts => .base
  | .clc => .base
  | .sec => .base
  | .cld => .base
  | .sed => .base
  | .cli => .base
  | .sei => .base
  | .clv => .base
  | .brk => .base
  | .rti => .base
  | .nop => .base
  | .wai => .waistp
  | .stp => .waistp

/-- An instruction is well formed under CAPS when its group is in it; otherwise its opcode "decodes as unassigned"
(00_scope.md R2). -/
def Instr.wellFormed (caps : Caps) (i : Instr) : Bool := caps.has i.group

/-- A region lies inside the 65536 addresses. -/
def Region.inside (r : Region) : Bool := decide (r.base + r.size ≤ 0x10000)

/-- Two regions share no address. -/
def Region.apart (r q : Region) : Bool := decide (r.base + r.size ≤ q.base) || decide (q.base + q.size ≤ r.base)

/-- The regions are "pairwise disjoint" (20_memory.md R52). -/
def regionsApart : List Region → Bool
  | [] => true
  | r :: rs => rs.all (fun q => r.apart q) && regionsApart rs

/-- The regions of a configuration are inside the address space and pairwise disjoint (20_memory.md R52). Lookup is
after `mirror`, so these are regions of mirrored addresses. -/
def MemCfg.regionsOk (c : MemCfg) : Bool := c.regions.all Region.inside && regionsApart c.regions

/-- `mirror(mirror(a)) = mirror(a)` for one address (20_memory.md R54). -/
def MemCfg.mirrorOkAt (c : MemCfg) (a : Word) : Bool :=
  decide (Machine.mirrorAddr c (Machine.mirrorAddr c a) = Machine.mirrorAddr c a)

/-- A memory configuration is well formed: regions as R52 says, `mirror` idempotent as R54 says. -/
def MemCfg.WellFormed (c : MemCfg) : Prop := c.regionsOk = true ∧ ∀ a : Word, c.mirrorOkAt a = true

end Sys2Proof
end

