-- ==== Sys2Proof/Decode.lean ====
section
/-! DEFINITION. The decoder, total on any bytes and rejecting by name (30_encoding.md R80 to R91), laid out as the
opcode map R86; and after it the encoder, written from the opcodes by mnemonic of R87 and R88. -/

namespace Sys2Proof

/-- What a decode-table slot holds for an assigned opcode, by its format (30_encoding.md R81): the instruction, or how
it is made from its operand bytes. -/
inductive Form where
  | f1 (i : Instr)
  | f2 (mk : Byte → Instr)
  | f3 (mk : Byte → Byte → Instr)

/-- Why bytes are no instruction. -/
inductive Reject where
  /-- one of the 44 unassigned opcodes (30_encoding.md R90) -/
  | unassigned (op : Byte)
  /-- an assigned opcode whose capability group is not in CAPS (30_encoding.md R89, R90) -/
  | groupAbsent (op : Byte) (g : Group)
  /-- fewer bytes than the instruction has -/
  | truncated
  deriving DecidableEq, Repr

/-- The decoder's answer. -/
inductive Decoded where
  | ok (i : Instr) (rest : List Byte)
  | rejected (why : Reject)
  deriving DecidableEq, Repr

/-! The opcode map of 30_encoding.md R86: row = high nibble, column = low nibble, `none` is unassigned. -/

/-- Row 0x of R86. -/
def opcodeRow0 : List (Option Form) :=
  [some (.f1 .brk), some (.f2 .oraIzx), none, none,
   some (.f2 .tsbZp), some (.f2 .oraZp), some (.f2 .aslZp), some (.f2 .rmb0),
   some (.f1 .php), some (.f2 .oraImm), some (.f1 .aslAcc), none,
   some (.f3 .tsbAbs), some (.f3 .oraAbs), some (.f3 .aslAbs), some (.f3 .bbr0)]

/-- Row 1x of R86. -/
def opcodeRow1 : List (Option Form) :=
  [some (.f2 .bpl), some (.f2 .oraIzy), some (.f2 .oraIzp), none,
   some (.f2 .trbZp), some (.f2 .oraZpx), some (.f2 .aslZpx), some (.f2 .rmb1),
   some (.f1 .clc), some (.f3 .oraAby), some (.f1 .incAcc), none,
   some (.f3 .trbAbs), some (.f3 .oraAbx), some (.f3 .aslAbx), some (.f3 .bbr1)]

/-- Row 2x of R86. -/
def opcodeRow2 : List (Option Form) :=
  [some (.f3 .jsr), some (.f2 .andIzx), none, none,
   some (.f2 .bitZp), some (.f2 .andZp), some (.f2 .rolZp), some (.f2 .rmb2),
   some (.f1 .plp), some (.f2 .andImm), some (.f1 .rolAcc), none,
   some (.f3 .bitAbs), some (.f3 .andAbs), some (.f3 .rolAbs), some (.f3 .bbr2)]

/-- Row 3x of R86. -/
def opcodeRow3 : List (Option Form) :=
  [some (.f2 .bmi), some (.f2 .andIzy), some (.f2 .andIzp), none,
   some (.f2 .bitZpx), some (.f2 .andZpx), some (.f2 .rolZpx), some (.f2 .rmb3),
   some (.f1 .sec), some (.f3 .andAby), some (.f1 .decAcc), none,
   some (.f3 .bitAbx), some (.f3 .andAbx), some (.f3 .rolAbx), some (.f3 .bbr3)]

/-- Row 4x of R86. -/
def opcodeRow4 : List (Option Form) :=
  [some (.f1 .rti), some (.f2 .eorIzx), none, none,
   none, some (.f2 .eorZp), some (.f2 .lsrZp), some (.f2 .rmb4),
   some (.f1 .pha), some (.f2 .eorImm), some (.f1 .lsrAcc), none,
   some (.f3 .jmpAbs), some (.f3 .eorAbs), some (.f3 .lsrAbs), some (.f3 .bbr4)]

/-- Row 5x of R86. -/
def opcodeRow5 : List (Option Form) :=
  [some (.f2 .bvc), some (.f2 .eorIzy), some (.f2 .eorIzp), none,
   none, some (.f2 .eorZpx), some (.f2 .lsrZpx), some (.f2 .rmb5),
   some (.f1 .cli), some (.f3 .eorAby), some (.f1 .phy), none,
   none, some (.f3 .eorAbx), some (.f3 .lsrAbx), some (.f3 .bbr5)]

/-- Row 6x of R86. -/
def opcodeRow6 : List (Option Form) :=
  [some (.f1 .rts), some (.f2 .adcIzx), none, none,
   some (.f2 .stzZp), some (.f2 .adcZp), some (.f2 .rorZp), some (.f2 .rmb6),
   some (.f1 .pla), some (.f2 .adcImm), some (.f1 .rorAcc), none,
   some (.f3 .jmpInd), some (.f3 .adcAbs), some (.f3 .rorAbs), some (.f3 .bbr6)]

/-- Row 7x of R86. -/
def opcodeRow7 : List (Option Form) :=
  [some (.f2 .bvs), some (.f2 .adcIzy), some (.f2 .adcIzp), none,
   some (.f2 .stzZpx), some (.f2 .adcZpx), some (.f2 .rorZpx), some (.f2 .rmb7),
   some (.f1 .sei), some (.f3 .adcAby), some (.f1 .ply), none,
   some (.f3 .jmpIax), some (.f3 .adcAbx), some (.f3 .rorAbx), some (.f3 .bbr7)]

/-- Row 8x of R86. -/
def opcodeRow8 : List (Option Form) :=
  [some (.f2 .bra), some (.f2 .staIzx), none, none,
   some (.f2 .styZp), some (.f2 .staZp), some (.f2 .stxZp), some (.f2 .smb0),
   some (.f1 .dey), some (.f2 .bitImm), some (.f1 .txa), none,
   some (.f3 .styAbs), some (.f3 .staAbs), some (.f3 .stxAbs), some (.f3 .bbs0)]

/-- Row 9x of R86. -/
def opcodeRow9 : List (Option Form) :=
  [some (.f2 .bcc), some (.f2 .staIzy), some (.f2 .staIzp), none,
   some (.f2 .styZpx), some (.f2 .staZpx), some (.f2 .stxZpy), some (.f2 .smb1),
   some (.f1 .tya), some (.f3 .staAby), some (.f1 .txs), none,
   some (.f3 .stzAbs), some (.f3 .staAbx), some (.f3 .stzAbx), some (.f3 .bbs1)]

/-- Row Ax of R86. -/
def opcodeRowA : List (Option Form) :=
  [some (.f2 .ldyImm), some (.f2 .ldaIzx), some (.f2 .ldxImm), none,
   some (.f2 .ldyZp), some (.f2 .ldaZp), some (.f2 .ldxZp), some (.f2 .smb2),
   some (.f1 .tay), some (.f2 .ldaImm), some (.f1 .tax), none,
   some (.f3 .ldyAbs), some (.f3 .ldaAbs), some (.f3 .ldxAbs), some (.f3 .bbs2)]

/-- Row Bx of R86. -/
def opcodeRowB : List (Option Form) :=
  [some (.f2 .bcs), some (.f2 .ldaIzy), some (.f2 .ldaIzp), none,
   some (.f2 .ldyZpx), some (.f2 .ldaZpx), some (.f2 .ldxZpy), some (.f2 .smb3),
   some (.f1 .clv), some (.f3 .ldaAby), some (.f1 .tsx), none,
   some (.f3 .ldyAbx), some (.f3 .ldaAbx), some (.f3 .ldxAby), some (.f3 .bbs3)]

/-- Row Cx of R86. -/
def opcodeRowC : List (Option Form) :=
  [some (.f2 .cpyImm), some (.f2 .cmpIzx), none, none,
   some (.f2 .cpyZp), some (.f2 .cmpZp), some (.f2 .decZp), some (.f2 .smb4),
   some (.f1 .iny), some (.f2 .cmpImm), some (.f1 .dex), some (.f1 .wai),
   some (.f3 .cpyAbs), some (.f3 .cmpAbs), some (.f3 .decAbs), some (.f3 .bbs4)]

/-- Row Dx of R86. -/
def opcodeRowD : List (Option Form) :=
  [some (.f2 .bne), some (.f2 .cmpIzy), some (.f2 .cmpIzp), none,
   none, some (.f2 .cmpZpx), some (.f2 .decZpx), some (.f2 .smb5),
   some (.f1 .cld), some (.f3 .cmpAby), some (.f1 .phx), some (.f1 .stp),
   none, some (.f3 .cmpAbx), some (.f3 .decAbx), some (.f3 .bbs5)]

/-- Row Ex of R86. -/
def opcodeRowE : List (Option Form) :=
  [some (.f2 .cpxImm), some (.f2 .sbcIzx), none, none,
   some (.f2 .cpxZp), some (.f2 .sbcZp), some (.f2 .incZp), some (.f2 .smb6),
   some (.f1 .inx), some (.f2 .sbcImm), some (.f1 .nop), none,
   some (.f3 .cpxAbs), some (.f3 .sbcAbs), some (.f3 .incAbs), some (.f3 .bbs6)]

/-- Row Fx of R86. -/
def opcodeRowF : List (Option Form) :=
  [some (.f2 .beq), some (.f2 .sbcIzy), some (.f2 .sbcIzp), none,
   none, some (.f2 .sbcZpx), some (.f2 .incZpx), some (.f2 .smb7),
   some (.f1 .sed), some (.f3 .sbcAby), some (.f1 .plx), none,
   none, some (.f3 .sbcAbx), some (.f3 .incAbx), some (.f3 .bbs7)]

/-- The opcode map, row by row. -/
def opcodeMap : List (List (Option Form)) :=
  [opcodeRow0, opcodeRow1, opcodeRow2, opcodeRow3, opcodeRow4, opcodeRow5, opcodeRow6, opcodeRow7,
   opcodeRow8, opcodeRow9, opcodeRowA, opcodeRowB, opcodeRowC, opcodeRowD, opcodeRowE, opcodeRowF]

/-- The slot of an opcode: "exhaustive over all 256 byte values" (30_encoding.md R85). -/
def opcodeForm (op : Byte) : Option Form := (opcodeMap.getD (op.toNat / 16) []).getD (op.toNat % 16) none

/-- The capability group of an opcode value: BITOPS has the low nibbles $7 and $F, WAISTP is $CB and $DB
(30_encoding.md R88, R89). -/
def opcodeGroup (op : Byte) : Group :=
  if op.toNat % 16 = 7 ∨ op.toNat % 16 = 15 then .bitops
  else if op = 0xCB#8 ∨ op = 0xDB#8 then .waistp
  else .base

/-- The slot of an opcode under CAPS, or why it is the placeholder (30_encoding.md R90). -/
def lookupOpcode (caps : Caps) (op : Byte) : Except Reject Form :=
  match opcodeForm op with
  | none => .error (.unassigned op)
  | some f => if caps.has (opcodeGroup op) then .ok f else .error (.groupAbsent op (opcodeGroup op))

/-- The instruction of a slot, its operand bytes taken from the bytes after the opcode. -/
def Form.take (f : Form) (rest : List Byte) : Decoded :=
  match f with
  | .f1 i => .ok i rest
  | .f2 mk =>
    match rest with
    | b1 :: rest' => .ok (mk b1) rest'
    | [] => .rejected .truncated
  | .f3 mk =>
    match rest with
    | b1 :: b2 :: rest' => .ok (mk b1 b2) rest'
    | [_] => .rejected .truncated
    | [] => .rejected .truncated

/-- An instruction of a slot with given operand bytes; a slot without operands ignores them. -/
def Form.build (f : Form) (b1 b2 : Byte) : Instr :=
  match f with
  | .f1 i => i
  | .f2 mk => mk b1
  | .f3 mk => mk b1 b2

/-- The decoder: "the opcode byte alone determines the length, the addressing mode and the operation"
(30_encoding.md R80). -/
def decode (caps : Caps) (bytes : List Byte) : Decoded :=
  match bytes with
  | [] => .rejected .truncated
  | op :: rest =>
    match lookupOpcode caps op with
    | .error why => .rejected why
    | .ok f => f.take rest

/-- Byte `k` of an instruction whose bits are numbered as spec/opcode_table.json numbers them. -/
def tableByte (w k : Nat) : Byte := BitVec.ofNat 8 (w / 2 ^ (8 * k))

/-- The bytes of a table word, the first at the lowest address, up to the longest instruction; the bits above `nbits`
are 0. -/
def tableBytes (nbits w : Nat) : List Byte :=
  [tableByte (w % 2 ^ nbits) 0, tableByte (w % 2 ^ nbits) 1, tableByte (w % 2 ^ nbits) 2]

/-- The instruction the decoder reads from a table word, all capability groups present. -/
def decodeTableWord (nbits w : Nat) : Option Instr :=
  match decode Caps.all (tableBytes nbits w) with
  | .ok i _ => some i
  | .rejected _ => none

/-- The encoder: the bytes of an instruction, its opcode by R87 and R88, its operand bytes by R81. -/
def encode : Instr → List Byte
  | .ldaImm n => [0xA9#8, n]
  | .ldaZp zp => [0xA5#8, zp]
  | .ldaZpx zp => [0xB5#8, zp]
  | .ldaAbs lo hi => [0xAD#8, lo, hi]
  | .ldaAbx lo hi => [0xBD#8, lo, hi]
  | .ldaAby lo hi => [0xB9#8, lo, hi]
  | .ldaIzx zp => [0xA1#8, zp]
  | .ldaIzy zp => [0xB1#8, zp]
  | .ldaIzp zp => [0xB2#8, zp]
  | .ldxImm n => [0xA2#8, n]
  | .ldxZp zp => [0xA6#8, zp]
  | .ldxZpy zp => [0xB6#8, zp]
  | .ldxAbs lo hi => [0xAE#8, lo, hi]
  | .ldxAby lo hi => [0xBE#8, lo, hi]
  | .ldyImm n => [0xA0#8, n]
  | .ldyZp zp => [0xA4#8, zp]
  | .ldyZpx zp => [0xB4#8, zp]
  | .ldyAbs lo hi => [0xAC#8, lo, hi]
  | .ldyAbx lo hi => [0xBC#8, lo, hi]
  | .staZp zp => [0x85#8, zp]
  | .staZpx zp => [0x95#8, zp]
  | .staAbs lo hi => [0x8D#8, lo, hi]
  | .staAbx lo hi => [0x9D#8, lo, hi]
  | .staAby lo hi => [0x99#8, lo, hi]
  | .staIzx zp => [0x81#8, zp]
  | .staIzy zp => [0x91#8, zp]
  | .staIzp zp => [0x92#8, zp]
  | .stxZp zp => [0x86#8, zp]
  | .stxZpy zp => [0x96#8, zp]
  | .stxAbs lo hi => [0x8E#8, lo, hi]
  | .styZp zp => [0x84#8, zp]
  | .styZpx zp => [0x94#8, zp]
  | .styAbs lo hi => [0x8C#8, lo, hi]
  | .stzZp zp => [0x64#8, zp]
  | .stzZpx zp => [0x74#8, zp]
  | .stzAbs lo hi => [0x9C#8, lo, hi]
  | .stzAbx lo hi => [0x9E#8, lo, hi]
  | .tax => [0xAA#8]
  | .tay => [0xA8#8]
  | .txa => [0x8A#8]
  | .tya => [0x98#8]
  | .tsx => [0xBA#8]
  | .txs => [0x9A#8]
  | .pha => [0x48#8]
  | .phx => [0xDA#8]
  | .phy => [0x5A#8]
  | .php => [0x08#8]
  | .pla => [0x68#8]
  | .plx => [0xFA#8]
  | .ply => [0x7A#8]
  | .plp => [0x28#8]
  | .adcImm n => [0x69#8, n]
  | .adcZp zp => [0x65#8, zp]
  | .adcZpx zp => [0x75#8, zp]
  | .adcAbs lo hi => [0x6D#8, lo, hi]
  | .adcAbx lo hi => [0x7D#8, lo, hi]
  | .adcAby lo hi => [0x79#8, lo, hi]
  | .adcIzx zp => [0x61#8, zp]
  | .adcIzy zp => [0x71#8, zp]
  | .adcIzp zp => [0x72#8, zp]
  | .sbcImm n => [0xE9#8, n]
  | .sbcZp zp => [0xE5#8, zp]
  | .sbcZpx zp => [0xF5#8, zp]
  | .sbcAbs lo hi => [0xED#8, lo, hi]
  | .sbcAbx lo hi => [0xFD#8, lo, hi]
  | .sbcAby lo hi => [0xF9#8, lo, hi]
  | .sbcIzx zp => [0xE1#8, zp]
  | .sbcIzy zp => [0xF1#8, zp]
  | .sbcIzp zp => [0xF2#8, zp]
  | .andImm n => [0x29#8, n]
  | .andZp zp => [0x25#8, zp]
  | .andZpx zp => [0x35#8, zp]
  | .andAbs lo hi => [0x2D#8, lo, hi]
  | .andAbx lo hi => [0x3D#8, lo, hi]
  | .andAby lo hi => [0x39#8, lo, hi]
  | .andIzx zp => [0x21#8, zp]
  | .andIzy zp => [0x31#8, zp]
  | .andIzp zp => [0x32#8, zp]
  | .oraImm n => [0x09#8, n]
  | .oraZp zp => [0x05#8, zp]
  | .oraZpx zp => [0x15#8, zp]
  | .oraAbs lo hi => [0x0D#8, lo, hi]
  | .oraAbx lo hi => [0x1D#8, lo, hi]
  | .oraAby lo hi => [0x19#8, lo, hi]
  | .oraIzx zp => [0x01#8, zp]
  | .oraIzy zp => [0x11#8, zp]
  | .oraIzp zp => [0x12#8, zp]
  | .eorImm n => [0x49#8, n]
  | .eorZp zp => [0x45#8, zp]
  | .eorZpx zp => [0x55#8, zp]
  | .eorAbs lo hi => [0x4D#8, lo, hi]
  | .eorAbx lo hi => [0x5D#8, lo, hi]
  | .eorAby lo hi => [0x59#8, lo, hi]
  | .eorIzx zp => [0x41#8, zp]
  | .eorIzy zp => [0x51#8, zp]
  | .eorIzp zp => [0x52#8, zp]
  | .cmpImm n => [0xC9#8, n]
  | .cmpZp zp => [0xC5#8, zp]
  | .cmpZpx zp => [0xD5#8, zp]
  | .cmpAbs lo hi => [0xCD#8, lo, hi]
  | .cmpAbx lo hi => [0xDD#8, lo, hi]
  | .cmpAby lo hi => [0xD9#8, lo, hi]
  | .cmpIzx zp => [0xC1#8, zp]
  | .cmpIzy zp => [0xD1#8, zp]
  | .cmpIzp zp => [0xD2#8, zp]
  | .cpxImm n => [0xE0#8, n]
  | .cpxZp zp => [0xE4#8, zp]
  | .cpxAbs lo hi => [0xEC#8, lo, hi]
  | .cpyImm n => [0xC0#8, n]
  | .cpyZp zp => [0xC4#8, zp]
  | .cpyAbs lo hi => [0xCC#8, lo, hi]
  | .bitImm n => [0x89#8, n]
  | .bitZp zp => [0x24#8, zp]
  | .bitZpx zp => [0x34#8, zp]
  | .bitAbs lo hi => [0x2C#8, lo, hi]
  | .bitAbx lo hi => [0x3C#8, lo, hi]
  | .aslAcc => [0x0A#8]
  | .aslZp zp => [0x06#8, zp]
  | .aslZpx zp => [0x16#8, zp]
  | .aslAbs lo hi => [0x0E#8, lo, hi]
  | .aslAbx lo hi => [0x1E#8, lo, hi]
  | .lsrAcc => [0x4A#8]
  | .lsrZp zp => [0x46#8, zp]
  | .lsrZpx zp => [0x56#8, zp]
  | .lsrAbs lo hi => [0x4E#8, lo, hi]
  | .lsrAbx lo hi => [0x5E#8, lo, hi]
  | .rolAcc => [0x2A#8]
  | .rolZp zp => [0x26#8, zp]
  | .rolZpx zp => [0x36#8, zp]
  | .rolAbs lo hi => [0x2E#8, lo, hi]
  | .rolAbx lo hi => [0x3E#8, lo, hi]
  | .rorAcc => [0x6A#8]
  | .rorZp zp => [0x66#8, zp]
  | .rorZpx zp => [0x76#8, zp]
  | .rorAbs lo hi => [0x6E#8, lo, hi]
  | .rorAbx lo hi => [0x7E#8, lo, hi]
  | .incAcc => [0x1A#8]
  | .incZp zp => [0xE6#8, zp]
  | .incZpx zp => [0xF6#8, zp]
  | .incAbs lo hi => [0xEE#8, lo, hi]
  | .incAbx lo hi => [0xFE#8, lo, hi]
  | .decAcc => [0x3A#8]
  | .decZp zp => [0xC6#8, zp]
  | .decZpx zp => [0xD6#8, zp]
  | .decAbs lo hi => [0xCE#8, lo, hi]
  | .decAbx lo hi => [0xDE#8, lo, hi]
  | .inx => [0xE8#8]
  | .iny => [0xC8#8]
  | .dex => [0xCA#8]
  | .dey => [0x88#8]
  | .tsbZp zp => [0x04#8, zp]
  | .tsbAbs lo hi => [0x0C#8, lo, hi]
  | .trbZp zp => [0x14#8, zp]
  | .trbAbs lo hi => [0x1C#8, lo, hi]
  | .rmb0 zp => [0x07#8, zp]
  | .rmb1 zp => [0x17#8, zp]
  | .rmb2 zp => [0x27#8, zp]
  | .rmb3 zp => [0x37#8, zp]
  | .rmb4 zp => [0x47#8, zp]
  | .rmb5 zp => [0x57#8, zp]
  | .rmb6 zp => [0x67#8, zp]
  | .rmb7 zp => [0x77#8, zp]
  | .smb0 zp => [0x87#8, zp]
  | .smb1 zp => [0x97#8, zp]
  | .smb2 zp => [0xA7#8, zp]
  | .smb3 zp => [0xB7#8, zp]
  | .smb4 zp => [0xC7#8, zp]
  | .smb5 zp => [0xD7#8, zp]
  | .smb6 zp => [0xE7#8, zp]
  | .smb7 zp => [0xF7#8, zp]
  | .bcc off => [0x90#8, off]
  | .bcs off => [0xB0#8, off]
  | .beq off => [0xF0#8, off]
  | .bne off => [0xD0#8, off]
  | .bmi off => [0x30#8, off]
  | .bpl off => [0x10#8, off]
  | .bvc off => [0x50#8, off]
  | .bvs off => [0x70#8, off]
  | .bra off => [0x80#8, off]
  | .bbr0 zp off => [0x0F#8, zp, off]
  | .bbr1 zp off => [0x1F#8, zp, off]
  | .bbr2 zp off => [0x2F#8, zp, off]
  | .bbr3 zp off => [0x3F#8, zp, off]
  | .bbr4 zp off => [0x4F#8, zp, off]
  | .bbr5 zp off => [0x5F#8, zp, off]
  | .bbr6 zp off => [0x6F#8, zp, off]
  | .bbr7 zp off => [0x7F#8, zp, off]
  | .bbs0 zp off => [0x8F#8, zp, off]
  | .bbs1 zp off => [0x9F#8, zp, off]
  | .bbs2 zp off => [0xAF#8, zp, off]
  | .bbs3 zp off => [0xBF#8, zp, off]
  | .bbs4 zp off => [0xCF#8, zp, off]
  | .bbs5 zp off => [0xDF#8, zp, off]
  | .bbs6 zp off => [0xEF#8, zp, off]
  | .bbs7 zp off => [0xFF#8, zp, off]
  | .jmpAbs lo hi => [0x4C#8, lo, hi]
  | .jmpInd lo hi => [0x6C#8, lo, hi]
  | .jmpIax lo hi => [0x7C#8, lo, hi]
  | .jsr lo hi => [0x20#8, lo, hi]
  | .rts => [0x60#8]
  | .clc => [0x18#8]
  | .sec => [0x38#8]
  | .cld => [0xD8#8]
  | .sed => [0xF8#8]
  | .cli => [0x58#8]
  | .sei => [0x78#8]
  | .clv => [0xB8#8]
  | .brk => [0x00#8]
  | .rti => [0x40#8]
  | .nop => [0xEA#8]
  | .wai => [0xCB#8]
  | .stp => [0xDB#8]

/-- The opcode byte of an instruction. -/
def opcodeOf (i : Instr) : Byte := (encode i).headD 0x00#8

end Sys2Proof
end

