-- ==== Sys2Proof/Machine/State.lean ====
section
/-! DEFINITION. The state of the machine as plain data (10_state.md), the records it emits, the reasons a step can
stop, and the machine right after reset (10_state.md R37, 70_reset_and_hazards.md R380). -/

namespace Sys2Proof.Machine

/-- The six stored flags (10_state.md R27). B and bit 5 of P are not storage (R28). -/
structure Flags where
  n : Bool
  v : Bool
  d : Bool
  i : Bool
  z : Bool
  c : Bool
  deriving DecidableEq, Repr

/-- The registers an injected operation can read and write: A, X, Y, S and P (10_state.md R20 to R23, R26). -/
structure Regs where
  a : Byte
  x : Byte
  y : Byte
  sp : Byte
  p : Flags
  deriving DecidableEq, Repr

/-- The latches of the sequencer (10_state.md R32). They are dead at an instruction boundary (log 12). -/
structure Latches where
  ir : Byte
  zpa : Byte
  adl : Byte
  adh : Byte
  ea : Word
  dl : Byte
  rel : Byte
  cross : Bool
  dec : Bool
  deriving DecidableEq, Repr

/-- The two interrupts (60_exceptions.md R340). -/
inductive IntKind where
  | nmi
  | irq
  deriving DecidableEq, Repr

/-- `seq`: which micro-op program is running (10_state.md R32). -/
inductive Seq where
  | instr
  | int (k : IntKind)
  deriving DecidableEq, Repr

/-- `svc`, the interrupt controller's label (10_state.md R35; log 22). -/
inductive Svc where
  | running
  | servicingNmi
  | servicingIrq
  deriving DecidableEq, Repr

/-- `run`, the mode of the engine (10_state.md R34); `faulted op addr` is `Faulted(DecodeError(op, addr))`. -/
inductive RunMode where
  | running
  | waiting
  | stopped
  | faulted (op : Byte) (addr : Word)
  deriving DecidableEq, Repr

/-- The direction of a bus cycle (40_addressing_and_bus_cycles.md R112). -/
inductive Dir where
  | read
  | write
  deriving DecidableEq, Repr

/-- The BusCycle record (40_addressing_and_bus_cycles.md R112). -/
structure BusCycle where
  cyc : Nat
  addr : Word
  data : Byte
  dir : Dir
  sync : Bool
  vp : Bool
  deriving DecidableEq, Repr

/-- MemoryPolicyEvent (20_memory.md R55, R56, R58); a ROM write carries the setting it is reported under (log 17). -/
inductive PolicyEvent where
  | unmappedRead (addr : Word)
  | romWrite (addr : Word) (v : Byte) (policy : RomWrite)
  | unmappedWrite (addr : Word) (v : Byte)
  deriving DecidableEq, Repr

/-- The host's inputs to one tick (60_exceptions.md R344). -/
structure HostInput where
  nmiEdge : Bool
  irq : Bool
  deriving DecidableEq, Repr

/-- The whole state (10_state.md), with the emitted records, the host's coming inputs and the run's parameters. -/
structure State where
  r : Regs
  pc : Word
  mem : Memory
  nmiPending : Bool
  irqLine : Bool
  svc : Svc
  run : RunMode
  t : Nat
  seq : Seq
  lat : Latches
  cyc : Nat
  bus : List BusCycle
  events : List PolicyEvent
  inputs : List HostInput
  cfg : Config
  deriving DecidableEq, Repr

/-- What the address of a dummy cycle may depend on: all of the core's own state at that cycle (10_state.md R20 to R36). -/
structure DummyView where
  r : Regs
  pc : Word
  mem : Memory
  nmiPending : Bool
  irqLine : Bool
  svc : Svc
  run : RunMode
  t : Nat
  seq : Seq
  lat : Latches
  cyc : Nat
  deriving DecidableEq, Repr

/-- The core's own state, its inputs of this cycle latched. -/
def State.view (s : State) : DummyView :=
  { r := s.r, pc := s.pc, mem := s.mem, nmiPending := s.nmiPending, irqLine := s.irqLine, svc := s.svc, run := s.run,
    t := s.t, seq := s.seq, lat := s.lat, cyc := s.cyc }

end Sys2Proof.Machine

namespace Sys2Proof

/-- FREE VALUE (log 6): the address of a dummy cycle that the run's parameters leave unspecified, as a function of the
dummy cycle and the core's state at it (40_addressing_and_bus_cycles.md R114; 93_implementation_defined.md U6). -/
opaque Config.freeDummyAddress : Dummy → Machine.DummyView → Word

end Sys2Proof

namespace Sys2Proof.Machine

/-- Why the machine stops with a fault. -/
inductive Fault where
  /-- Raised by a step from `Faulted(DecodeError(op, addr))`: "Faulted is terminal: no tick is defined from it"
  (10_state.md R34, 60_exceptions.md R341). Safe: the spec's machine goes no further either. -/
  | decodeError (op : Byte) (addr : Word)
  /-- Raised by a step from a mid-instruction state whose IR names no micro-op program, which no run reaches: IR is
  written by a fetch that refuses such an opcode (log 16). Safe: it only stops. -/
  | noMicroProgram (op : Byte)
  deriving DecidableEq, Repr

/-- Why an instruction is refused. -/
inductive Refusal where
  /-- Raised by an arm of `exec` whose instruction has no meaning yet; no arm of this model does. Safe: it only stops. -/
  | notModelled (mnemonic : String)
  deriving DecidableEq, Repr

/-! Named updates, one for each field that a step writes. -/

def State.withR (s : State) (r : Regs) : State := { s with r := r }
def State.withPc (s : State) (pc : Word) : State := { s with pc := pc }
def State.withMem (s : State) (m : Memory) : State := { s with mem := m }
def State.withNmiPending (s : State) (b : Bool) : State := { s with nmiPending := b }
def State.withIrqLine (s : State) (b : Bool) : State := { s with irqLine := b }
def State.withSvc (s : State) (v : Svc) : State := { s with svc := v }
def State.withRun (s : State) (m : RunMode) : State := { s with run := m }
def State.withT (s : State) (t : Nat) : State := { s with t := t }
def State.withSeq (s : State) (q : Seq) : State := { s with seq := q }
def State.withLat (s : State) (l : Latches) : State := { s with lat := l }
def State.withCyc (s : State) (n : Nat) : State := { s with cyc := n }
def State.withBus (s : State) (b : List BusCycle) : State := { s with bus := b }
def State.withEvents (s : State) (e : List PolicyEvent) : State := { s with events := e }
def State.withInputs (s : State) (l : List HostInput) : State := { s with inputs := l }

/-- The latches right after reset; "dead" (10_state.md R37), so the value is DESIGN CHOICE (log 12). -/
def Latches.reset : Latches :=
  { ir := 0x00#8, zpa := 0x00#8, adl := 0x00#8, adh := 0x00#8, ea := 0x0000#16, dl := 0x00#8, rel := 0x00#8,
    cross := false, dec := false }

/-- INIT as `State.reset` takes it: the start values of 95_test_vectors.md. DESIGN CHOICE, log 2. -/
def initDefault : Init :=
  { a := 0x00#8, x := 0x00#8, y := 0x00#8, s := 0xFF#8, n := false, v := false, z := false, c := false }

/-- The address of the reset vector (20_memory.md R59). -/
def resetVector : Word := 0xFFFC#16

/-- The policy events of the two vector reads of reset, newest first (log 15). -/
def resetEvents (c : MemCfg) : List PolicyEvent :=
  (match regionKind c (resetVector + 1#16) with
    | some _ => []
    | none => [.unmappedRead (resetVector + 1#16)]) ++
  (match regionKind c resetVector with
    | some _ => []
    | none => [.unmappedRead resetVector])

/-- `reset(image, INIT)` under a configuration (70_reset_and_hazards.md R380, 10_state.md R37): atomic, no BusCycle.
The image is loaded past the write policy (20_memory.md R53); for `irqLine` see log 18. -/
def State.resetWith (cfg : Config) (image : Memory) (init : Init) : State :=
  { r :=
      { a := init.a, x := init.x, y := init.y, sp := init.s,
        p := { n := init.n, v := init.v, d := false, i := true, z := init.z, c := init.c } }
    pc := wordOf (readByte cfg.memcfg image (resetVector + 1#16)) (readByte cfg.memcfg image resetVector)
    mem := image
    nmiPending := false
    irqLine := false
    svc := .running
    run := .running
    t := 1
    seq := .instr
    lat := Latches.reset
    cyc := 0
    bus := []
    events := resetEvents cfg.memcfg
    inputs := []
    cfg := cfg }

/-- The machine right after reset: no image loaded, the parameters at their defaults, INIT as log 2 names it. -/
def State.reset : State := State.resetWith Config.default [] initDefault

/-- A reset in the middle of a run (70_reset_and_hazards.md R381): the same operation with the image the present
memory, INIT the present registers and flags, and S an argument, since the spec leaves it unspecified. The host's
IRQ level and coming inputs stay the host's. -/
def State.warmReset (s : State) (sp : Byte) : State :=
  { State.resetWith s.cfg s.mem
      { a := s.r.a, x := s.r.x, y := s.r.y, s := sp, n := s.r.p.n, v := s.r.p.v, z := s.r.p.z, c := s.r.p.c } with
    irqLine := s.irqLine
    inputs := s.inputs }

end Sys2Proof.Machine
end

