-- ==== Sys2Proof/Machine/Ops.lean ====
section
/-! DEFINITION. The named operations over registers, memory and the bus: reads and writes under the memory policy, one
bus cycle at a time, dummy cycles, the latching of the host's inputs, push and pull, taking a trap and returning from
one (20_memory.md, 40_addressing_and_bus_cycles.md R110 to R114, 60_exceptions.md R344 to R349). -/

namespace Sys2Proof.Machine

/-- `MemRead(addr, 1)`, the value alone: a read changes no machine state (20_memory.md R55, R57). -/
def State.memRead (s : State) (a : Word) : Byte := readByte s.cfg.memcfg s.mem a

/-- The MemoryPolicyEvent of a read, if there is one (20_memory.md R55, R58). -/
def State.noteRead (s : State) (a : Word) : State :=
  match regionKind s.cfg.memcfg a with
  | some _ => s
  | none => s.withEvents (.unmappedRead a :: s.events)

/-- The MemoryPolicyEvent of a write, if there is one (20_memory.md R56, R58). -/
def State.noteWrite (s : State) (a : Word) (v : Byte) : State :=
  match regionKind s.cfg.memcfg a with
  | some .ram => s
  | some .rom => s.withEvents (.romWrite a v s.cfg.memcfg.romWrite :: s.events)
  | none => s.withEvents (.unmappedWrite a v :: s.events)

/-- The emission of one BusCycle: `cyc` is "copied into each BusCycle and then incremented by one"
(10_state.md R36, 40_addressing_and_bus_cycles.md R112). -/
def State.emit (s : State) (a : Word) (v : Byte) (d : Dir) (sync vp : Bool) : State :=
  (s.withBus ({ cyc := s.cyc, addr := a, data := v, dir := d, sync := sync, vp := vp } :: s.bus)).withCyc (s.cyc + 1)

/-- A read cycle whose byte is `v`, with its signal flags. -/
def State.readCycle (s : State) (a : Word) (v : Byte) (sync vp : Bool) : State :=
  (s.noteRead a).emit a v .read sync vp

/-- `BusRead(addr)` (00_scope.md R9). -/
def State.busRead (s : State) (a : Word) : State := s.readCycle a (s.memRead a) false false

/-- `BusRead(addr, vp)`: a vector read (00_scope.md R9, 40_addressing_and_bus_cycles.md R112). -/
def State.vectorRead (s : State) (a : Word) : State := s.readCycle a (s.memRead a) false true

/-- `BusWrite(addr, v)`: the write cycle is emitted whether or not the memory policy stores the byte
(00_scope.md R9, 20_memory.md R56). -/
def State.busWrite (s : State) (a : Word) (v : Byte) : State :=
  ((s.noteWrite a v).withMem (storeByte s.cfg.memcfg s.mem a v)).emit a v .write false false

/-- The address a run's parameter gives a dummy cycle in a state of the core: `dflt` is the default the cycle template
names (40_addressing_and_bus_cycles.md R114; log 6). -/
def DummyAddr.eval (d : Dummy) (v : DummyView) (dflt : Word) : DummyAddr → Word
  | .dflt => dflt
  | .free => Config.freeDummyAddress d v
  | .fixed a => a
  | .pc => v.pc
  | .ea => v.lat.ea
  | .zpa => wordOf 0x00#8 v.lat.zpa
  | .stack => wordOf 0x01#8 v.r.sp
  | .adr => wordOf v.lat.adh v.lat.adl
  | .target => v.pc + sext16 v.lat.rel
  | .plus e off => eval d v dflt e + off
  | .join h l => wordOf (hiByte (eval d v dflt h)) (loByte (eval d v dflt l))
  | .atCycle n e1 e2 => if v.cyc = n then eval d v dflt e1 else eval d v dflt e2

/-- The address of a dummy cycle in this state (R114). -/
def State.dummyAddr (s : State) (d : Dummy) (dflt : Word) : Word :=
  DummyAddr.eval d s.view dflt (s.cfg.dummies.get d)

/-- `dummy BusRead(DA<n> = dflt)`: a read whose byte is discarded (00_scope.md R9). -/
def State.dummyRead (s : State) (d : Dummy) (dflt : Word) : State := s.busRead (s.dummyAddr d dflt)

/-- A dummy read with `sync`, the first cycle of an interrupt sequence (40_addressing_and_bus_cycles.md R112). -/
def State.dummySyncRead (s : State) (d : Dummy) (dflt : Word) : State :=
  s.readCycle (s.dummyAddr d dflt) (s.memRead (s.dummyAddr d dflt)) true false

/-- The fetch of an operand byte `b` of the instruction stream: a read at PC, then `PC <- PC +16 1` (10_state.md R25). -/
def State.fetchByte (s : State) (b : Byte) : State :=
  (s.readCycle s.pc b false false).withPc (s.pc + 1#16)

/-- The latching of the host's inputs at the start of every tick (60_exceptions.md R344). When the list of coming
inputs has run out the host passes {0, 0} (log 9). -/
def State.latchInputs (s : State) : State :=
  match s.inputs with
  | [] => s.withIrqLine false
  | h :: hs => ((s.withNmiPending (s.nmiPending || h.nmiEdge)).withIrqLine h.irq).withInputs hs

/-- A cycle that is not the program's last one: `T <- T + 1` (40_addressing_and_bus_cycles.md R110 step 5). -/
def State.more (s : State) : State := s.withT (s.t + 1)

/-- The program's last cycle: `T <- 1`, and `seq <- Instr` (40_addressing_and_bus_cycles.md R110 step 5,
60_exceptions.md R349 cycle 7). -/
def State.last (s : State) : State := (s.withT 1).withSeq .instr

/-! Register, flag and latch updates of one field. -/

def State.setA (s : State) (v : Byte) : State := s.withR { s.r with a := v }
def State.setX (s : State) (v : Byte) : State := s.withR { s.r with x := v }
def State.setY (s : State) (v : Byte) : State := s.withR { s.r with y := v }
def State.setS (s : State) (v : Byte) : State := s.withR { s.r with sp := v }
def State.setP (s : State) (p : Flags) : State := s.withR { s.r with p := p }
def State.setZpa (s : State) (v : Byte) : State := s.withLat { s.lat with zpa := v }
def State.setAdl (s : State) (v : Byte) : State := s.withLat { s.lat with adl := v }
def State.setAdh (s : State) (v : Byte) : State := s.withLat { s.lat with adh := v }
def State.setEa (s : State) (v : Word) : State := s.withLat { s.lat with ea := v }
def State.setDl (s : State) (v : Byte) : State := s.withLat { s.lat with dl := v }
def State.setRel (s : State) (v : Byte) : State := s.withLat { s.lat with rel := v }
def State.setCross (s : State) (b : Bool) : State := s.withLat { s.lat with cross := b }

/-- The stack address `$01:S` (10_state.md R23). -/
def stackAddr (sp : Byte) : Word := wordOf 0x01#8 sp

/-- `push(v)`: `BusWrite($01:S, v); S <- S -8 1` (20_memory.md R60). -/
def State.push (s : State) (v : Byte) : State :=
  (s.busWrite (stackAddr s.r.sp) v).setS (s.r.sp - 1#8)

/-- P as a pushed byte `N:V:1:B:D:I:Z:C`: bit 5 is 1, and bit 4 (B) is the argument (10_state.md R26, R28). -/
def packP (p : Flags) (b : Bool) : Byte :=
  BitVec.ofBool p.n ++ BitVec.ofBool p.v ++ 1#1 ++ BitVec.ofBool b ++ BitVec.ofBool p.d ++ BitVec.ofBool p.i ++
    BitVec.ofBool p.z ++ BitVec.ofBool p.c

/-- P from a pulled byte; bits 5 and 4 are discarded (10_state.md R28, 42_stack.md R208). -/
def unpackP (v : Byte) : Flags :=
  { n := bitOf v 7, v := bitOf v 6, d := bitOf v 3, i := bitOf v 2, z := bitOf v 1, c := bitOf v 0 }

/-- P after a trap entry: `P.I <- 1; P.D <- 0`, the other flags unchanged (60_exceptions.md R350). -/
def trapFlags (p : Flags) : Flags := { p with i := true, d := false }

/-- TAKING A TRAP, cycles 3 to 7, the same for BRK, IRQ and NMI (60_exceptions.md R349, R350;
40_addressing_and_bus_cycles.md R147): PC high, PC low and P (with the given B) are pushed, then PC is read from the
vector, low byte first, and I is set and D cleared. -/
def State.trapEntryRow (s : State) (vec : Word) (b : Bool) : State :=
  match s.t with
  | 3 => (s.push (hiByte s.pc)).more
  | 4 => (s.push (loByte s.pc)).more
  | 5 => (s.push (packP s.r.p b)).more
  | 6 => ((s.vectorRead vec).setAdl (s.memRead vec)).more
  | _ =>
    ((((s.vectorRead (vec + 1#16)).setAdh (s.memRead (vec + 1#16))).withPc
      (wordOf (s.memRead (vec + 1#16)) s.lat.adl)).setP (trapFlags s.r.p)).last

/-- RETURNING FROM A TRAP, T_RTI cycles 2 to 6 (40_addressing_and_bus_cycles.md R146, 46_flags_system.md R319):
P, PC low and PC high are pulled, nothing is added to PC, and `svc <- Running`. -/
def State.trapReturnRow (s : State) : State :=
  match s.t with
  | 2 => (s.dummyRead .da16 s.pc).more
  | 3 => ((s.dummyRead .da15 (stackAddr s.r.sp)).setS (s.r.sp + 1#8)).more
  | 4 => (((s.busRead (stackAddr s.r.sp)).setDl (s.memRead (stackAddr s.r.sp))).setS (s.r.sp + 1#8)).more
  | 5 => (((s.busRead (stackAddr s.r.sp)).setAdl (s.memRead (stackAddr s.r.sp))).setS (s.r.sp + 1#8)).more
  | _ =>
    (((((s.busRead (stackAddr s.r.sp)).setAdh (s.memRead (stackAddr s.r.sp))).withPc
      (wordOf (s.memRead (stackAddr s.r.sp)) s.lat.adl)).setP (unpackP s.lat.dl)).withSvc .running).last

/-- The vector of an interrupt: $FFFA for NMI, $FFFE for IRQ (20_memory.md R59, 60_exceptions.md R349). -/
def intVector (k : IntKind) : Word :=
  match k with
  | .nmi => 0xFFFA#16
  | .irq => 0xFFFE#16

/-- The vector of BRK (20_memory.md R59). -/
def brkVector : Word := 0xFFFE#16

/-- The label `svc` takes when an interrupt sequence begins (10_state.md R35). -/
def intSvc (k : IntKind) : Svc :=
  match k with
  | .nmi => .servicingNmi
  | .irq => .servicingIrq

/-- T_INT cycle 1 (60_exceptions.md R349): a dummy read at PC with `sync`; NMI clears `nmi_pending`; `svc` is set. -/
def State.interruptStart (s : State) (k : IntKind) : State :=
  ((((s.dummySyncRead .da18 s.pc).withSeq (.int k)).withNmiPending
    (match k with
      | .nmi => false
      | .irq => s.nmiPending)).withSvc (intSvc k)).withT 2

/-- T_INT cycles 2 to 7 (60_exceptions.md R349). The pushed byte has B = 0. -/
def State.interruptRow (s : State) (k : IntKind) : State :=
  match s.t with
  | 1 => s.interruptStart k
  | 2 => (s.dummyRead .da18 s.pc).more
  | _ => s.trapEntryRow (intVector k) false

/-- The idle cycle of `Waiting` and `Stopped`: a dummy read at PC, nothing else changes but `cyc`
(60_exceptions.md R360, R361; log 20). -/
def State.idleCycle (s : State) : State := s.dummyRead .da21 s.pc

end Sys2Proof.Machine
end

