-- ==== Sys2Proof/Machine/Flags.lean ====
section
/-! DEFINITION. Every flag computation of the spec: `SetNZ`, single flags, binary and decimal ADC and SBC, compare,
BIT, shifts and rotates, TSB and TRB (10_state.md R26 to R30; 43_alu.md; 44_rmw.md). -/

namespace Sys2Proof.Machine

/-- `SetNZ(v)`: `P.Z <- (v == 0); P.N <- v[7]`, no other flag (10_state.md R29). -/
def setNZ (v : Byte) (p : Flags) : Flags := { p with z := decide (v = 0#8), n := bitOf v 7 }

/-- The flags of the source's list {N, V, B, D, I, Z, C} (10_state.md R26). -/
inductive FlagName where
  | n | v | b | d | i | z | c
  deriving DecidableEq, Repr

/-- The register file's read of a flag: "Get B on the register file answers 1" (10_state.md R28). -/
def Flags.get (p : Flags) (f : FlagName) : Bool :=
  match f with
  | .n => p.n
  | .v => p.v
  | .b => true
  | .d => p.d
  | .i => p.i
  | .z => p.z
  | .c => p.c

/-- The register file's write of a flag: "set B has no effect" (10_state.md R28). -/
def Flags.set (p : Flags) (f : FlagName) (b : Bool) : Flags :=
  match f with
  | .n => { p with n := b }
  | .v => { p with v := b }
  | .b => p
  | .d => { p with d := b }
  | .i => { p with i := b }
  | .z => { p with z := b }
  | .c => { p with c := b }

/-- An adder's answer: the 8-bit result, carry and overflow. -/
structure AluResult where
  value : Byte
  carry : Bool
  overflow : Bool
  deriving DecidableEq, Repr

/-- ADC in binary mode: `t <- zext(A) + zext(M) + C; r <- t[7:0]; C <- t[8]; V <- ((A ^ r) & (M ^ r))[7]`
(43_alu.md R221). -/
def adcBinary (a m : Byte) (c : Bool) : AluResult :=
  let t := a.toNat + m.toNat + c.toNat
  let r := BitVec.ofNat 8 t
  { value := r, carry := decide (0x100 ≤ t), overflow := bitOf ((a ^^^ r) &&& (m ^^^ r)) 7 }

/-- SBC in binary mode: "exactly ADC of the one's complement of M" (43_alu.md R223). -/
def sbcBinary (a m : Byte) (c : Bool) : AluResult := adcBinary a (m ^^^ 0xFF#8) c

/-- Whether both nibbles of a byte are 0 to 9 (43_alu.md R222). -/
def isBcd (v : Byte) : Bool := decide (v.toNat % 16 < 10) && decide (v.toNat / 16 < 10)

/-- `signed8(v) = v - 256 if v >= $80 else v`, for the high digit `v & $F0` (43_alu.md R222). -/
def signed8 (v : Nat) : Int := if 0x80 ≤ v then (v : Int) - 256 else (v : Int)

/-- The low-digit sum of a decimal ADC, adjusted: `AL` (43_alu.md R222). -/
def adcLowDigit (a m : Byte) (c : Bool) : Nat :=
  let al := a.toNat % 16 + m.toNat % 16 + c.toNat
  if 0x0A ≤ al then (al + 0x06) % 16 + 0x10 else al

/-- ADC in decimal mode on BCD operands (43_alu.md R222; for V see log 8). -/
def adcDecimal (a m : Byte) (c : Bool) : AluResult :=
  let al := adcLowDigit a m c
  let ah := a.toNat / 16 * 16
  let mh := m.toNat / 16 * 16
  let s0 := ah + mh + al
  let ss := signed8 ah + signed8 mh + (al : Int)
  let s1 := if 0xA0 ≤ s0 then s0 + 0x60 else s0
  { value := BitVec.ofNat 8 s1, carry := decide (0x100 ≤ s1), overflow := decide (ss < -128) || decide (127 < ss) }

/-- SBC in decimal mode on BCD operands; C and V are those of the binary rule (43_alu.md R224). -/
def sbcDecimal (a m : Byte) (c : Bool) : AluResult :=
  let al := (a.toNat % 16 : Int) - (m.toNat % 16 : Int) + (c.toNat : Int) - 1
  let s0 := (a.toNat : Int) - (m.toNat : Int) + (c.toNat : Int) - 1
  let s1 := if s0 < 0 then s0 - 0x60 else s0
  let s2 := if al < 0 then s1 - 0x06 else s1
  { value := BitVec.ofInt 8 s2, carry := (sbcBinary a m c).carry, overflow := (sbcBinary a m c).overflow }

/-- The write-back of ADC and SBC: A, C and V, then `SetNZ` of the result (43_alu.md R221 to R224). -/
def aluWrite (res : AluResult) (r : Regs) : Regs :=
  { r with a := res.value, p := setNZ res.value { r.p with c := res.carry, v := res.overflow } }

/-- The write-back where A, N, V, Z and C are unspecified: a free value; D and I unchanged (43_alu.md R222, log 7). -/
def freeWrite (o : BcdOutcome) (r : Regs) : Regs :=
  { r with a := o.a, p := { r.p with n := o.n, v := o.v, z := o.z, c := o.c } }

/-- The operation of ADC: binary when `P.D = 0`, decimal when `P.D = 1`, unspecified when decimal on operands that are
not BCD (43_alu.md R221, R222). -/
def opAdc (m : Byte) (r : Regs) : Regs :=
  if r.p.d then
    if isBcd r.a && isBcd m then aluWrite (adcDecimal r.a m r.p.c) r
    else freeWrite (Config.freeDecimalAdc r.a m (packP r.p true)) r
  else aluWrite (adcBinary r.a m r.p.c) r

/-- The operation of SBC (43_alu.md R223, R224). -/
def opSbc (m : Byte) (r : Regs) : Regs :=
  if r.p.d then
    if isBcd r.a && isBcd m then aluWrite (sbcDecimal r.a m r.p.c) r
    else freeWrite (Config.freeDecimalSbc r.a m (packP r.p true)) r
  else aluWrite (sbcBinary r.a m r.p.c) r

/-- The flags of a compare of a register with M: `d <- R -8 M; C <- (R >= M) unsigned; SetNZ(d)` (43_alu.md R228). -/
def compareFlags (reg m : Byte) (p : Flags) : Flags := setNZ (reg - m) { p with c := decide (m.toNat ≤ reg.toNat) }

/-- The flags of BIT on memory: Z from `A & M`, N and V from bits 7 and 6 of M (43_alu.md R231). -/
def bitFlags (a m : Byte) (p : Flags) : Flags :=
  { p with z := decide (a &&& m = 0#8), n := bitOf m 7, v := bitOf m 6 }

/-- The flags of BIT immediate, TSB and TRB: Z from `A & M` alone (43_alu.md R231, 44_rmw.md R261, R262). -/
def testFlags (a m : Byte) (p : Flags) : Flags := { p with z := decide (a &&& m = 0#8) }

/-- `r <- (M << 1)[7:0]` (44_rmw.md R251). -/
def aslByte (m : Byte) : Byte := m <<< 1

/-- `r <- M >> 1`, bit 7 of `r` is 0 (44_rmw.md R252). -/
def lsrByte (m : Byte) : Byte := m >>> 1

/-- `r <- ((M << 1) | zext(P.C))[7:0]` (44_rmw.md R253). -/
def rolByte (m : Byte) (c : Bool) : Byte := (m <<< 1) ||| BitVec.ofNat 8 c.toNat

/-- `r <- (M >> 1) | (zext(P.C) << 7)` (44_rmw.md R254). -/
def rorByte (m : Byte) (c : Bool) : Byte := (m >>> 1) ||| (BitVec.ofNat 8 c.toNat <<< 7)

/-- The flags of a left shift or rotate: `C <- M[7]; SetNZ(r)` (44_rmw.md R251, R253). -/
def leftFlags (m r : Byte) (p : Flags) : Flags := setNZ r { p with c := bitOf m 7 }

/-- The flags of a right shift or rotate: `C <- M[0]; SetNZ(r)` (44_rmw.md R252, R254). -/
def rightFlags (m r : Byte) (p : Flags) : Flags := setNZ r { p with c := bitOf m 0 }

end Sys2Proof.Machine
end

