-- ==== Sys2Proof/Machine/Operands.lean ====
section
/-! DEFINITION. The operand forms: the effective address of every addressing mode as a function of the operand bytes,
the registers and memory (30_encoding.md R82; 40_addressing_and_bus_cycles.md R115 to R117), and the cycles that
compute it (the addressing rows of the templates R120 to R138). -/

namespace Sys2Proof.Machine

/-- `$00:z`. -/
def zpAddr (z : Byte) : Word := wordOf 0x00#8 z

/-- `$00:(z +8 i)`: zero-page indexing wraps inside the zero page (R116 (a)). -/
def zpIndexed (z i : Byte) : Word := zpAddr (z + i)

/-- `(hi:lo) +16 zext_16(i)`: absolute indexing wraps modulo 2^16 (R116 (c)). -/
def absIndexed (lo hi i : Byte) : Word := wordOf hi lo + zext16 i

/-- The page-cross test of an indexed address: `lo + i >= $100` (R115). -/
def pageCross (lo i : Byte) : Bool := decide (0x100 ≤ lo.toNat + i.toNat)

/-- The low byte of a zero-page pointer, at `$00:z` (R115). -/
def State.pointerLo (s : State) (z : Byte) : Byte := s.memRead (zpAddr z)

/-- The high byte of a zero-page pointer, at `$00:(z +8 1)`: a pointer at $FF has its high byte at $0000 (R116 (b)). -/
def State.pointerHi (s : State) (z : Byte) : Byte := s.memRead (zpAddr (z + 1#8))

/-- The effective address of a data mode from the operand bytes and the state at the start of the instruction (R115).
`op2` plays a part in the absolute modes only. -/
def State.effAddr (s : State) (m : DataMode) (op1 op2 : Byte) : Word :=
  match m with
  | .zp => zpAddr op1
  | .zpx => zpIndexed op1 s.r.x
  | .zpy => zpIndexed op1 s.r.y
  | .abs => wordOf op2 op1
  | .abx => absIndexed op1 op2 s.r.x
  | .aby => absIndexed op1 op2 s.r.y
  | .izx => wordOf (s.pointerHi (op1 + s.r.x)) (s.pointerLo (op1 + s.r.x))
  | .izy => absIndexed (s.pointerLo op1) (s.pointerHi op1) s.r.y
  | .izp => wordOf (s.pointerHi op1) (s.pointerLo op1)

/-- The page-cross test of a data mode; the modes without one answer false (R115, R117). -/
def State.crosses (s : State) (m : DataMode) (op1 : Byte) : Bool :=
  match m with
  | .abx => pageCross op1 s.r.x
  | .aby => pageCross op1 s.r.y
  | .izy => pageCross (s.pointerLo op1) s.r.y
  | .zp => false
  | .zpx => false
  | .zpy => false
  | .abs => false
  | .izx => false
  | .izp => false

/-- The target of a relative branch from the address `next` after the instruction (30_encoding.md R84). -/
def branchTarget (next : Word) (off : Byte) : Word := next + sext16 off

/-- The page-cross test of a branch: `hi(target) != hi(next)` (R115). -/
def branchCross (next : Word) (off : Byte) : Bool := decide (hiByte (branchTarget next off) ≠ hiByte next)

/-- Operand byte 1 as a zero-page address. -/
def State.rowZpa (s : State) (b : Byte) : State := (s.fetchByte b).setZpa b

/-- Operand byte 1 as the low byte of an address. -/
def State.rowAdl (s : State) (b : Byte) : State := (s.fetchByte b).setAdl b

/-- Operand byte 2 as the high byte of an address, with EA. -/
def State.rowAdhEa (s : State) (b : Byte) : State := ((s.fetchByte b).setAdh b).setEa (wordOf b s.lat.adl)

/-- Operand byte 2 as the high byte of an indexed address, with `cross` and EA (R129 cycle 3). -/
def State.rowAdhIndexed (s : State) (b i : Byte) : State :=
  (((s.fetchByte b).setAdh b).setCross (pageCross s.lat.adl i)).setEa (absIndexed s.lat.adl b i)

/-- The indexing cycle of an absolute indexed mode: DA4 in a read that crosses; DA6 or DA5 where the cycle is always
present (R129, R130, R132). -/
def State.rowAbsIndexing (s : State) (always : Bool) : State :=
  if always then
    if s.lat.cross then s.dummyRead .da6 (s.pc - 1#16) else s.dummyRead .da5 s.lat.ea
  else s.dummyRead .da4 (s.pc - 1#16)

/-- The indexing cycle of (zero page),Y: DA7 in a read that crosses; DA9 or DA8 in a store (R135, R136). -/
def State.rowIzyIndexing (s : State) (always : Bool) : State :=
  if always then
    if s.lat.cross then s.dummyRead .da9 (s.pc - 1#16) else s.dummyRead .da8 s.lat.ea
  else s.dummyRead .da7 (s.pc - 1#16)

/-- The read of a pointer's low byte (R133 cycle 4, R135 and R137 cycle 3). -/
def State.rowPointerLo (s : State) : State :=
  (s.busRead (zpAddr s.lat.zpa)).setAdl (s.pointerLo s.lat.zpa)

/-- The read of a pointer's high byte, with EA (R133 cycle 5, R137 cycle 4). -/
def State.rowPointerHi (s : State) : State :=
  ((s.busRead (zpAddr (s.lat.zpa + 1#8))).setAdh (s.pointerHi s.lat.zpa)).setEa
    (wordOf (s.pointerHi s.lat.zpa) s.lat.adl)

/-- The read of a pointer's high byte, with `cross` and the indexed EA (R135 cycle 4). -/
def State.rowPointerHiY (s : State) : State :=
  (((s.busRead (zpAddr (s.lat.zpa + 1#8))).setAdh (s.pointerHi s.lat.zpa)).setCross
    (pageCross s.lat.adl s.r.y)).setEa (absIndexed s.lat.adl (s.pointerHi s.lat.zpa) s.r.y)

/-- The addressing rows of a data mode, cycle T of R120 to R138; `b` is the operand byte an operand fetch reads, and
`always` says that the indexing cycle is present whether or not a page is crossed (R117). -/
def State.addressRow (s : State) (m : DataMode) (always : Bool) (b : Byte) : State :=
  match m with
  | .zp => (s.rowZpa b).setEa (zpAddr b)
  | .zpx =>
    match s.t with
    | 2 => s.rowZpa b
    | _ => (s.dummyRead .da2 (zpAddr s.lat.zpa)).setEa (zpIndexed s.lat.zpa s.r.x)
  | .zpy =>
    match s.t with
    | 2 => s.rowZpa b
    | _ => (s.dummyRead .da2 (zpAddr s.lat.zpa)).setEa (zpIndexed s.lat.zpa s.r.y)
  | .abs =>
    match s.t with
    | 2 => s.rowAdl b
    | _ => s.rowAdhEa b
  | .abx =>
    match s.t with
    | 2 => s.rowAdl b
    | 3 => s.rowAdhIndexed b s.r.x
    | _ => s.rowAbsIndexing always
  | .aby =>
    match s.t with
    | 2 => s.rowAdl b
    | 3 => s.rowAdhIndexed b s.r.y
    | _ => s.rowAbsIndexing always
  | .izx =>
    match s.t with
    | 2 => s.rowZpa b
    | 3 => (s.dummyRead .da2 (zpAddr s.lat.zpa)).setZpa (s.lat.zpa + s.r.x)
    | 4 => s.rowPointerLo
    | _ => s.rowPointerHi
  | .izy =>
    match s.t with
    | 2 => s.rowZpa b
    | 3 => s.rowPointerLo
    | 4 => s.rowPointerHiY
    | _ => s.rowIzyIndexing always
  | .izp =>
    match s.t with
    | 2 => s.rowZpa b
    | 3 => s.rowPointerLo
    | _ => s.rowPointerHi

/-- The number of the last addressing cycle of a data mode (R120 to R138). -/
def lastAddressCycle (m : DataMode) (always cross : Bool) : Nat :=
  match m with
  | .zp => 2
  | .zpx => 3
  | .zpy => 3
  | .abs => 3
  | .abx => if always || cross then 4 else 3
  | .aby => if always || cross then 4 else 3
  | .izx => 5
  | .izy => if always || cross then 5 else 4
  | .izp => 4

end Sys2Proof.Machine
end

