-- ==== Sys2Proof/Machine/Templates.lean ====
section
/-! DEFINITION. The micro-op programs: one cycle template per addressing mode and access kind with the operation
injected into it (40_addressing_and_bus_cycles.md R118 to R151), the fetch cycle (R111), and the run of an
instruction's cycles up to the next instruction boundary (00_scope.md R7). -/

namespace Sys2Proof.Machine

/-- "The ordered micro-op program" of an opcode's descriptor (30_encoding.md R85): a template and the operation
injected into it. What an operation is given and what it may write is in its type. -/
inductive MicroProgram where
  /-- T_IMP (R118) -/
  | imp (op : Regs → Regs)
  /-- T_IMM (R119); `decimal` marks ADC and SBC (R151) -/
  | imm (decimal : Bool) (op : Byte → Regs → Regs)
  /-- The read templates T_ZP_R to T_IZP_R (R120, R123, R126, R129, R133, R135, R137) -/
  | read (m : DataMode) (decimal : Bool) (op : Byte → Regs → Regs)
  /-- The store templates T_ZP_W to T_IZP_W (R121, R124, R127, R130, R134, R136, R138) -/
  | write (m : DataMode) (v : Regs → Byte)
  /-- The read-modify-write templates (R122, R125, R128, R131; R132 when `always`): the byte written and the flags -/
  | modify (m : DataMode) (always : Bool) (res : Byte → Regs → Byte) (fl : Byte → Regs → Flags)
  /-- T_REL (R139) -/
  | branch (cond : Flags → Bool)
  /-- T_ZPREL (R140): taken when bit `n` of the tested byte equals `sense` -/
  | bitBranch (n : Nat) (sense : Bool)
  /-- T_JMP_ABS (R141) -/
  | jmpAbs
  /-- T_JMP_IND (R142) -/
  | jmpInd
  /-- T_JMP_IAX (R143) -/
  | jmpIax
  /-- T_JSR (R144) -/
  | jsr
  /-- T_RTS (R145) -/
  | rts
  /-- T_RTI (R146) -/
  | rti
  /-- T_BRK (R147) -/
  | brk
  /-- T_PUSH (R148) -/
  | push (v : Regs → Byte)
  /-- T_PULL (R149) -/
  | pull (op : Byte → Regs → Regs)
  /-- T_HALT (R150) -/
  | halt (mode : RunMode)
  /-- T_INT (60_exceptions.md R349) -/
  | interrupt (k : IntKind)

/-- The fetch cycle of an assigned opcode (R111): IR, PC and `dec` are written; the next cycle is 2. -/
def State.fetchCycle (s : State) (op : Byte) : State :=
  ((((s.readCycle s.pc op true false).withPc (s.pc + 1#16)).withLat { s.lat with ir := op, dec := s.r.p.d }).withSeq
    .instr).withT 2

/-- The fetch cycle of an opcode that decodes to the placeholder (R111, 60_exceptions.md R341): the BusCycle is
emitted, `PC = PC0 +16 1`, and `run <- Faulted(DecodeError(op, PC0))` (log 11). -/
def State.decodeErrorCycle (s : State) (op : Byte) : State :=
  (((s.readCycle s.pc op true false).withPc (s.pc + 1#16)).withLat { s.lat with ir := op }).withRun (.faulted op s.pc)

/-- T_IMP cycle 2 (R118). -/
def State.impRow (s : State) (op : Regs → Regs) : State := ((s.dummyRead .da1 s.pc).withR (op s.r)).last

/-- T_IMM cycle 2 (R119), and cycle 3 of a decimal ADC or SBC (R151; DA19 is the address of the operand read). -/
def State.immRow (s : State) (decimal : Bool) (op : Byte → Regs → Regs) (b : Byte) : State :=
  match s.t with
  | 2 =>
    if decimal && s.lat.dec then ((s.fetchByte b).setDl b).more
    else (((s.fetchByte b).setDl b).withR (op b s.r)).last
  | _ => ((s.dummyRead .da19 (s.pc - 1#16)).withR (op s.lat.dl s.r)).last

/-- The data read of a read template, and the decimal cycle after it (R120 and its like; R151). -/
def State.dataReadRow (s : State) (decimal : Bool) (op : Byte → Regs → Regs) : State :=
  if decimal && s.lat.dec then ((s.busRead s.lat.ea).setDl (s.memRead s.lat.ea)).more
  else (((s.busRead s.lat.ea).setDl (s.memRead s.lat.ea)).withR (op (s.memRead s.lat.ea) s.r)).last

/-- The decimal cycle: a dummy read at the address of the data read, then the operation (R151). -/
def State.decimalRow (s : State) (op : Byte → Regs → Regs) : State :=
  ((s.dummyRead .da19 s.lat.ea).withR (op s.lat.dl s.r)).last

/-- A read template: the addressing rows, the data read, the decimal cycle. -/
def State.readRow (s : State) (m : DataMode) (decimal : Bool) (op : Byte → Regs → Regs) (b : Byte) : State :=
  if s.t ≤ lastAddressCycle m false s.lat.cross then (s.addressRow m false b).more
  else if s.t = lastAddressCycle m false s.lat.cross + 1 then s.dataReadRow decimal op
  else s.decimalRow op

/-- A store template: the addressing rows with the indexing cycle always present, then the one write. -/
def State.writeRow (s : State) (m : DataMode) (v : Regs → Byte) (b : Byte) : State :=
  if s.t ≤ lastAddressCycle m true s.lat.cross then (s.addressRow m true b).more
  else (s.busWrite s.lat.ea (v s.r)).last

/-- A read-modify-write template: the addressing rows, the read, the dummy read, the write (R122). -/
def State.modifyRow (s : State) (m : DataMode) (always : Bool) (res : Byte → Regs → Byte) (fl : Byte → Regs → Flags)
    (b : Byte) : State :=
  if s.t ≤ lastAddressCycle m always s.lat.cross then (s.addressRow m always b).more
  else if s.t = lastAddressCycle m always s.lat.cross + 1 then
    ((s.busRead s.lat.ea).setDl (s.memRead s.lat.ea)).more
  else if s.t = lastAddressCycle m always s.lat.cross + 2 then (s.dummyRead .da3 s.lat.ea).more
  else ((s.busWrite s.lat.ea (res s.lat.dl s.r)).setP (fl s.lat.dl s.r)).last

/-- The cycle added when a branch is taken; PC moves here unless the page is crossed (R139 cycle 3, R140 cycle 6). -/
def State.takenRow (s : State) : State :=
  if branchCross s.pc s.lat.rel then ((s.dummyRead .da10 s.pc).setCross true).more
  else (((s.dummyRead .da10 s.pc).setCross false).withPc (branchTarget s.pc s.lat.rel)).last

/-- The cycle added when a taken branch crosses a page (R139 cycle 4, R140 cycle 7). -/
def State.takenCrossRow (s : State) : State :=
  ((s.dummyRead .da11 (wordOf (hiByte s.pc) (loByte (branchTarget s.pc s.lat.rel)))).withPc
    (branchTarget s.pc s.lat.rel)).last

/-- T_REL (R139). -/
def State.branchRow (s : State) (cond : Flags → Bool) (b : Byte) : State :=
  match s.t with
  | 2 => if cond s.r.p then ((s.fetchByte b).setRel b).more else ((s.fetchByte b).setRel b).last
  | 3 => s.takenRow
  | _ => s.takenCrossRow

/-- T_ZPREL (R140). -/
def State.bitBranchRow (s : State) (n : Nat) (sense : Bool) (b : Byte) : State :=
  match s.t with
  | 2 => (s.rowZpa b).more
  | 3 => ((s.busRead (zpAddr s.lat.zpa)).setDl (s.memRead (zpAddr s.lat.zpa))).more
  | 4 => (s.dummyRead .da22 (zpAddr s.lat.zpa)).more
  | 5 =>
    if bitOf s.lat.dl n = sense then ((s.fetchByte b).setRel b).more else ((s.fetchByte b).setRel b).last
  | 6 => s.takenRow
  | _ => s.takenCrossRow

/-- T_JMP_ABS (R141). -/
def State.jmpAbsRow (s : State) (b : Byte) : State :=
  match s.t with
  | 2 => (s.rowAdl b).more
  | _ => (((s.readCycle s.pc b false false).setAdh b).withPc (wordOf b s.lat.adl)).last

/-- The two pointer reads of an indirect jump (R142, R143 cycles 5 and 6); the pointer is incremented with full
16-bit carry (R116 (d)). -/
def State.jumpPointerRow (s : State) : State :=
  match s.t with
  | 5 => ((s.busRead s.lat.ea).setAdl (s.memRead s.lat.ea)).more
  | _ =>
    (((s.busRead (s.lat.ea + 1#16)).setAdh (s.memRead (s.lat.ea + 1#16))).withPc
      (wordOf (s.memRead (s.lat.ea + 1#16)) s.lat.adl)).last

/-- T_JMP_IND (R142). -/
def State.jmpIndRow (s : State) (b : Byte) : State :=
  match s.t with
  | 2 => (s.rowAdl b).more
  | 3 => (s.rowAdhEa b).more
  | 4 => (s.dummyRead .da12 (s.pc - 1#16)).more
  | _ => s.jumpPointerRow

/-- T_JMP_IAX (R143). -/
def State.jmpIaxRow (s : State) (b : Byte) : State :=
  match s.t with
  | 2 => (s.rowAdl b).more
  | 3 => ((s.fetchByte b).setAdh b).more
  | 4 => ((s.dummyRead .da13 (s.pc - 1#16)).setEa (absIndexed s.lat.adl s.lat.adh s.r.x)).more
  | _ => s.jumpPointerRow

/-- T_JSR (R144). "The high byte of the target is read after the two pushes", from memory, in cycle 6 (log 13). -/
def State.jsrRow (s : State) (b : Byte) : State :=
  match s.t with
  | 2 => (s.rowAdl b).more
  | 3 => (s.dummyRead .da14 (stackAddr s.r.sp)).more
  | 4 => (s.push (hiByte s.pc)).more
  | 5 => (s.push (loByte s.pc)).more
  | _ => (((s.busRead s.pc).setAdh (s.memRead s.pc)).withPc (wordOf (s.memRead s.pc) s.lat.adl)).last

/-- T_RTS (R145). -/
def State.rtsRow (s : State) : State :=
  match s.t with
  | 2 => (s.dummyRead .da16 s.pc).more
  | 3 => ((s.dummyRead .da15 (stackAddr s.r.sp)).setS (s.r.sp + 1#8)).more
  | 4 => (((s.busRead (stackAddr s.r.sp)).setAdl (s.memRead (stackAddr s.r.sp))).setS (s.r.sp + 1#8)).more
  | 5 =>
    (((s.busRead (stackAddr s.r.sp)).setAdh (s.memRead (stackAddr s.r.sp))).withPc
      (wordOf (s.memRead (stackAddr s.r.sp)) s.lat.adl)).more
  | _ => ((s.dummyRead .da17 s.pc).withPc (s.pc + 1#16)).last

/-- T_BRK (R147): the signature byte is read and discarded, then the trap is taken with B = 1. -/
def State.brkRow (s : State) : State :=
  match s.t with
  | 2 => ((s.busRead s.pc).withPc (s.pc + 1#16)).more
  | _ => s.trapEntryRow brkVector true

/-- T_PUSH (R148). -/
def State.pushRow (s : State) (v : Regs → Byte) : State :=
  match s.t with
  | 2 => (s.dummyRead .da16 s.pc).more
  | _ => (s.push (v s.r)).last

/-- T_PULL (R149). -/
def State.pullRow (s : State) (op : Byte → Regs → Regs) : State :=
  match s.t with
  | 2 => (s.dummyRead .da16 s.pc).more
  | 3 => ((s.dummyRead .da15 (stackAddr s.r.sp)).setS (s.r.sp + 1#8)).more
  | _ =>
    (((s.busRead (stackAddr s.r.sp)).setDl (s.memRead (stackAddr s.r.sp))).withR
      (op (s.memRead (stackAddr s.r.sp)) s.r)).last

/-- T_HALT (R150). -/
def State.haltRow (s : State) (mode : RunMode) : State :=
  match s.t with
  | 2 => (s.dummyRead .da20 s.pc).more
  | _ => ((s.dummyRead .da20 s.pc).withRun mode).last

/-- Cycle T of a micro-op program; `b` is the byte an operand fetch of this cycle reads. -/
def cycleRow (p : MicroProgram) (b : Byte) (s : State) : State :=
  match p with
  | .imp op => s.impRow op
  | .imm decimal op => s.immRow decimal op b
  | .read m decimal op => s.readRow m decimal op b
  | .write m v => s.writeRow m v b
  | .modify m always res fl => s.modifyRow m always res fl b
  | .branch cond => s.branchRow cond b
  | .bitBranch n sense => s.bitBranchRow n sense b
  | .jmpAbs => s.jmpAbsRow b
  | .jmpInd => s.jmpIndRow b
  | .jmpIax => s.jmpIaxRow b
  | .jsr => s.jsrRow b
  | .rts => s.rtsRow
  | .rti => s.trapReturnRow
  | .brk => s.brkRow
  | .push v => s.pushRow v
  | .pull op => s.pullRow op
  | .halt mode => s.haltRow mode
  | .interrupt k => s.interruptRow k

/-- One cycle after the first: the inputs are latched, then the row is performed
(40_addressing_and_bus_cycles.md R110 steps 1 and 4). `stream` gives the byte an operand fetch reads. -/
def nextCycle (p : MicroProgram) (stream : State → Byte) (s : State) : State :=
  cycleRow p (stream s.latchInputs) s.latchInputs

/-- The cycles of a program up to the boundary `T = 1`; no program has more than seven after its first. -/
def runCycles (fuel : Nat) (p : MicroProgram) (stream : State → Byte) (s : State) : State :=
  match fuel with
  | 0 => s
  | k + 1 => if s.t = 1 then s else runCycles k p stream (nextCycle p stream s)

/-- More cycles than any program has. -/
def cycleBound : Nat := 8

/-- The operand bytes of an instruction as its fetch cycles read them: byte 1 in cycle 2, byte 2 in a later one. -/
def operandStream (i : Instr) (s : State) : Byte :=
  if s.t = 2 then (encode i).getD 1 0x00#8 else (encode i).getD 2 0x00#8

/-- The instruction stream in memory: the byte at PC. -/
def memoryStream (s : State) : Byte := s.memRead s.pc

/-- A whole instruction from its boundary: the fetch cycle and the cycles of its program, "all cycles of one
instruction" (00_scope.md R7). The inputs of the first tick are latched before (60_exceptions.md R344, R346). -/
def runInstr (i : Instr) (p : MicroProgram) (s : State) : Host.Outcome State Fault Refusal :=
  .next (runCycles cycleBound p (operandStream i) (s.fetchCycle (opcodeOf i)))

/-- A whole interrupt sequence from its boundary (60_exceptions.md R349). -/
def runInterrupt (k : IntKind) (s : State) : State :=
  runCycles cycleBound (.interrupt k) memoryStream (s.interruptStart k)

end Sys2Proof.Machine
end

