-- ==== Sys2Proof/Machine/Alu.lean ====
section
/-! DEFINITION. Arithmetic, logic, compare and bit test (43_alu.md): the injected operations, then for every opcode row its micro-op program and
its meaning, the run of that program. -/

namespace Sys2Proof.Machine

/-! ADC and SBC are `opAdc` and `opSbc` of Machine/Flags.lean (R221 to R224). -/

/-- AND: `A <- A & M; SetNZ(A)` (R225). -/
def opAnd (m : Byte) (r : Regs) : Regs := { r with a := r.a &&& m, p := setNZ (r.a &&& m) r.p }

/-- ORA: `A <- A | M; SetNZ(A)` (R226). -/
def opOra (m : Byte) (r : Regs) : Regs := { r with a := r.a ||| m, p := setNZ (r.a ||| m) r.p }

/-- EOR: `A <- A ^ M; SetNZ(A)` (R227). -/
def opEor (m : Byte) (r : Regs) : Regs := { r with a := r.a ^^^ m, p := setNZ (r.a ^^^ m) r.p }

/-- CMP: the flags of a compare of A with M; A is not written (R228). -/
def opCmp (m : Byte) (r : Regs) : Regs := { r with p := compareFlags r.a m r.p }

/-- CPX (R229). -/
def opCpx (m : Byte) (r : Regs) : Regs := { r with p := compareFlags r.x m r.p }

/-- CPY (R230). -/
def opCpy (m : Byte) (r : Regs) : Regs := { r with p := compareFlags r.y m r.p }

/-- BIT, memory forms: Z, N and V (R231). -/
def opBit (m : Byte) (r : Regs) : Regs := { r with p := bitFlags r.a m r.p }

/-- BIT immediate: Z only (R231). -/
def opBitImm (m : Byte) (r : Regs) : Regs := { r with p := testFlags r.a m r.p }

/-- ADC #$nn (`$69`): T_IMM (R119) with the operation of R221, R222. -/
def progAdcImm : MicroProgram := .imm true opAdc

/-- The meaning of ADC #$nn (R221, R222). -/
def execAdcImm (n : Byte) (s : State) : Host.Outcome State Fault Refusal :=
  runInstr (.adcImm n) progAdcImm s

/-- ADC $zz (`$65`): T_ZP_R (R120) with the operation of R221, R222. -/
def progAdcZp : MicroProgram := .read .zp true opAdc

/-- The meaning of ADC $zz (R221, R222). -/
def execAdcZp (zp : Byte) (s : State) : Host.Outcome State Fault Refusal :=
  runInstr (.adcZp zp) progAdcZp s

/-- ADC $zz,X (`$75`): T_ZPI_R (R123) with the operation of R221, R222. -/
def progAdcZpx : MicroProgram := .read .zpx true opAdc

/-- The meaning of ADC $zz,X (R221, R222). -/
def execAdcZpx (zp : Byte) (s : State) : Host.Outcome State Fault Refusal :=
  runInstr (.adcZpx zp) progAdcZpx s

/-- ADC $hhll (`$6D`): T_ABS_R (R126) with the operation of R221, R222. -/
def progAdcAbs : MicroProgram := .read .abs true opAdc

/-- The meaning of ADC $hhll (R221, R222). -/
def execAdcAbs (lo hi : Byte) (s : State) : Host.Outcome State Fault Refusal :=
  runInstr (.adcAbs lo hi) progAdcAbs s

/-- ADC $hhll,X (`$7D`): T_ABI_R (R129) with the operation of R221, R222. -/
def progAdcAbx : MicroProgram := .read .abx true opAdc

/-- The meaning of ADC $hhll,X (R221, R222). -/
def execAdcAbx (lo hi : Byte) (s : State) : Host.Outcome State Fault Refusal :=
  runInstr (.adcAbx lo hi) progAdcAbx s

/-- ADC $hhll,Y (`$79`): T_ABI_R (R129) with the operation of R221, R222. -/
def progAdcAby : MicroProgram := .read .aby true opAdc

/-- The meaning of ADC $hhll,Y (R221, R222). -/
def execAdcAby (lo hi : Byte) (s : State) : Host.Outcome State Fault Refusal :=
  runInstr (.adcAby lo hi) progAdcAby s

/-- ADC ($zz,X) (`$61`): T_IZX_R (R133) with the operation of R221, R222. -/
def progAdcIzx : MicroProgram := .read .izx true opAdc

/-- The meaning of ADC ($zz,X) (R221, R222). -/
def execAdcIzx (zp : Byte) (s : State) : Host.Outcome State Fault Refusal :=
  runInstr (.adcIzx zp) progAdcIzx s

/-- ADC ($zz),Y (`$71`): T_IZY_R (R135) with the operation of R221, R222. -/
def progAdcIzy : MicroProgram := .read .izy true opAdc

/-- The meaning of ADC ($zz),Y (R221, R222). -/
def execAdcIzy (zp : Byte) (s : State) : Host.Outcome State Fault Refusal :=
  runInstr (.adcIzy zp) progAdcIzy s

/-- ADC ($zz) (`$72`): T_IZP_R (R137) with the operation of R221, R222. -/
def progAdcIzp : MicroProgram := .read .izp true opAdc

/-- The meaning of ADC ($zz) (R221, R222). -/
def execAdcIzp (zp : Byte) (s : State) : Host.Outcome State Fault Refusal :=
  runInstr (.adcIzp zp) progAdcIzp s

/-- SBC #$nn (`$E9`): T_IMM (R119) with the operation of R223, R224. -/
def progSbcImm : MicroProgram := .imm true opSbc

/-- The meaning of SBC #$nn (R223, R224). -/
def execSbcImm (n : Byte) (s : State) : Host.Outcome State Fault Refusal :=
  runInstr (.sbcImm n) progSbcImm s

/-- SBC $zz (`$E5`): T_ZP_R (R120) with the operation of R223, R224. -/
def progSbcZp : MicroProgram := .read .zp true opSbc

/-- The meaning of SBC $zz (R223, R224). -/
def execSbcZp (zp : Byte) (s : State) : Host.Outcome State Fault Refusal :=
  runInstr (.sbcZp zp) progSbcZp s

/-- SBC $zz,X (`$F5`): T_ZPI_R (R123) with the operation of R223, R224. -/
def progSbcZpx : MicroProgram := .read .zpx true opSbc

/-- The meaning of SBC $zz,X (R223, R224). -/
def execSbcZpx (zp : Byte) (s : State) : Host.Outcome State Fault Refusal :=
  runInstr (.sbcZpx zp) progSbcZpx s

/-- SBC $hhll (`$ED`): T_ABS_R (R126) with the operation of R223, R224. -/
def progSbcAbs : MicroProgram := .read .abs true opSbc

/-- The meaning of SBC $hhll (R223, R224). -/
def execSbcAbs (lo hi : Byte) (s : State) : Host.Outcome State Fault Refusal :=
  runInstr (.sbcAbs lo hi) progSbcAbs s

/-- SBC $hhll,X (`$FD`): T_ABI_R (R129) with the operation of R223, R224. -/
def progSbcAbx : MicroProgram := .read .abx true opSbc

/-- The meaning of SBC $hhll,X (R223, R224). -/
def execSbcAbx (lo hi : Byte) (s : State) : Host.Outcome State Fault Refusal :=
  runInstr (.sbcAbx lo hi) progSbcAbx s

/-- SBC $hhll,Y (`$F9`): T_ABI_R (R129) with the operation of R223, R224. -/
def progSbcAby : MicroProgram := .read .aby true opSbc

/-- The meaning of SBC $hhll,Y (R223, R224). -/
def execSbcAby (lo hi : Byte) (s : State) : Host.Outcome State Fault Refusal :=
  runInstr (.sbcAby lo hi) progSbcAby s

/-- SBC ($zz,X) (`$E1`): T_IZX_R (R133) with the operation of R223, R224. -/
def progSbcIzx : MicroProgram := .read .izx true opSbc

/-- The meaning of SBC ($zz,X) (R223, R224). -/
def execSbcIzx (zp : Byte) (s : State) : Host.Outcome State Fault Refusal :=
  runInstr (.sbcIzx zp) progSbcIzx s

/-- SBC ($zz),Y (`$F1`): T_IZY_R (R135) with the operation of R223, R224. -/
def progSbcIzy : MicroProgram := .read .izy true opSbc

/-- The meaning of SBC ($zz),Y (R223, R224). -/
def execSbcIzy (zp : Byte) (s : State) : Host.Outcome State Fault Refusal :=
  runInstr (.sbcIzy zp) progSbcIzy s

/-- SBC ($zz) (`$F2`): T_IZP_R (R137) with the operation of R223, R224. -/
def progSbcIzp : MicroProgram := .read .izp true opSbc

/-- The meaning of SBC ($zz) (R223, R224). -/
def execSbcIzp (zp : Byte) (s : State) : Host.Outcome State Fault Refusal :=
  runInstr (.sbcIzp zp) progSbcIzp s

/-- AND #$nn (`$29`): T_IMM (R119) with the operation of R225. -/
def progAndImm : MicroProgram := .imm false opAnd

/-- The meaning of AND #$nn (R225). -/
def execAndImm (n : Byte) (s : State) : Host.Outcome State Fault Refusal :=
  runInstr (.andImm n) progAndImm s

/-- AND $zz (`$25`): T_ZP_R (R120) with the operation of R225. -/
def progAndZp : MicroProgram := .read .zp false opAnd

/-- The meaning of AND $zz (R225). -/
def execAndZp (zp : Byte) (s : State) : Host.Outcome State Fault Refusal :=
  runInstr (.andZp zp) progAndZp s

/-- AND $zz,X (`$35`): T_ZPI_R (R123) with the operation of R225. -/
def progAndZpx : MicroProgram := .read .zpx false opAnd

/-- The meaning of AND $zz,X (R225). -/
def execAndZpx (zp : Byte) (s : State) : Host.Outcome State Fault Refusal :=
  runInstr (.andZpx zp) progAndZpx s

/-- AND $hhll (`$2D`): T_ABS_R (R126) with the operation of R225. -/
def progAndAbs : MicroProgram := .read .abs false opAnd

/-- The meaning of AND $hhll (R225). -/
def execAndAbs (lo hi : Byte) (s : State) : Host.Outcome State Fault Refusal :=
  runInstr (.andAbs lo hi) progAndAbs s

/-- AND $hhll,X (`$3D`): T_ABI_R (R129) with the operation of R225. -/
def progAndAbx : MicroProgram := .read .abx false opAnd

/-- The meaning of AND $hhll,X (R225). -/
def execAndAbx (lo hi : Byte) (s : State) : Host.Outcome State Fault Refusal :=
  runInstr (.andAbx lo hi) progAndAbx s

/-- AND $hhll,Y (`$39`): T_ABI_R (R129) with the operation of R225. -/
def progAndAby : MicroProgram := .read .aby false opAnd

/-- The meaning of AND $hhll,Y (R225). -/
def execAndAby (lo hi : Byte) (s : State) : Host.Outcome State Fault Refusal :=
  runInstr (.andAby lo hi) progAndAby s

/-- AND ($zz,X) (`$21`): T_IZX_R (R133) with the operation of R225. -/
def progAndIzx : MicroProgram := .read .izx false opAnd

/-- The meaning of AND ($zz,X) (R225). -/
def execAndIzx (zp : Byte) (s : State) : Host.Outcome State Fault Refusal :=
  runInstr (.andIzx zp) progAndIzx s

/-- AND ($zz),Y (`$31`): T_IZY_R (R135) with the operation of R225. -/
def progAndIzy : MicroProgram := .read .izy false opAnd

/-- The meaning of AND ($zz),Y (R225). -/
def execAndIzy (zp : Byte) (s : State) : Host.Outcome State Fault Refusal :=
  runInstr (.andIzy zp) progAndIzy s

/-- AND ($zz) (`$32`): T_IZP_R (R137) with the operation of R225. -/
def progAndIzp : MicroProgram := .read .izp false opAnd

/-- The meaning of AND ($zz) (R225). -/
def execAndIzp (zp : Byte) (s : State) : Host.Outcome State Fault Refusal :=
  runInstr (.andIzp zp) progAndIzp s

/-- ORA #$nn (`$09`): T_IMM (R119) with the operation of R226. -/
def progOraImm : MicroProgram := .imm false opOra

/-- The meaning of ORA #$nn (R226). -/
def execOraImm (n : Byte) (s : State) : Host.Outcome State Fault Refusal :=
  runInstr (.oraImm n) progOraImm s

/-- ORA $zz (`$05`): T_ZP_R (R120) with the operation of R226. -/
def progOraZp : MicroProgram := .read .zp false opOra

/-- The meaning of ORA $zz (R226). -/
def execOraZp (zp : Byte) (s : State) : Host.Outcome State Fault Refusal :=
  runInstr (.oraZp zp) progOraZp s

/-- ORA $zz,X (`$15`): T_ZPI_R (R123) with the operation of R226. -/
def progOraZpx : MicroProgram := .read .zpx false opOra

/-- The meaning of ORA $zz,X (R226). -/
def execOraZpx (zp : Byte) (s : State) : Host.Outcome State Fault Refusal :=
  runInstr (.oraZpx zp) progOraZpx s

/-- ORA $hhll (`$0D`): T_ABS_R (R126) with the operation of R226. -/
def progOraAbs : MicroProgram := .read .abs false opOra

/-- The meaning of ORA $hhll (R226). -/
def execOraAbs (lo hi : Byte) (s : State) : Host.Outcome State Fault Refusal :=
  runInstr (.oraAbs lo hi) progOraAbs s

/-- ORA $hhll,X (`$1D`): T_ABI_R (R129) with the operation of R226. -/
def progOraAbx : MicroProgram := .read .abx false opOra

/-- The meaning of ORA $hhll,X (R226). -/
def execOraAbx (lo hi : Byte) (s : State) : Host.Outcome State Fault Refusal :=
  runInstr (.oraAbx lo hi) progOraAbx s

/-- ORA $hhll,Y (`$19`): T_ABI_R (R129) with the operation of R226. -/
def progOraAby : MicroProgram := .read .aby false opOra

/-- The meaning of ORA $hhll,Y (R226). -/
def execOraAby (lo hi : Byte) (s : State) : Host.Outcome State Fault Refusal :=
  runInstr (.oraAby lo hi) progOraAby s

/-- ORA ($zz,X) (`$01`): T_IZX_R (R133) with the operation of R226. -/
def progOraIzx : MicroProgram := .read .izx false opOra

/-- The meaning of ORA ($zz,X) (R226). -/
def execOraIzx (zp : Byte) (s : State) : Host.Outcome State Fault Refusal :=
  runInstr (.oraIzx zp) progOraIzx s

/-- ORA ($zz),Y (`$11`): T_IZY_R (R135) with the operation of R226. -/
def progOraIzy : MicroProgram := .read .izy false opOra

/-- The meaning of ORA ($zz),Y (R226). -/
def execOraIzy (zp : Byte) (s : State) : Host.Outcome State Fault Refusal :=
  runInstr (.oraIzy zp) progOraIzy s

/-- ORA ($zz) (`$12`): T_IZP_R (R137) with the operation of R226. -/
def progOraIzp : MicroProgram := .read .izp false opOra

/-- The meaning of ORA ($zz) (R226). -/
def execOraIzp (zp : Byte) (s : State) : Host.Outcome State Fault Refusal :=
  runInstr (.oraIzp zp) progOraIzp s

/-- EOR #$nn (`$49`): T_IMM (R119) with the operation of R227. -/
def progEorImm : MicroProgram := .imm false opEor

/-- The meaning of EOR #$nn (R227). -/
def execEorImm (n : Byte) (s : State) : Host.Outcome State Fault Refusal :=
  runInstr (.eorImm n) progEorImm s

/-- EOR $zz (`$45`): T_ZP_R (R120) with the operation of R227. -/
def progEorZp : MicroProgram := .read .zp false opEor

/-- The meaning of EOR $zz (R227). -/
def execEorZp (zp : Byte) (s : State) : Host.Outcome State Fault Refusal :=
  runInstr (.eorZp zp) progEorZp s

/-- EOR $zz,X (`$55`): T_ZPI_R (R123) with the operation of R227. -/
def progEorZpx : MicroProgram := .read .zpx false opEor

/-- The meaning of EOR $zz,X (R227). -/
def execEorZpx (zp : Byte) (s : State) : Host.Outcome State Fault Refusal :=
  runInstr (.eorZpx zp) progEorZpx s

/-- EOR $hhll (`$4D`): T_ABS_R (R126) with the operation of R227. -/
def progEorAbs : MicroProgram := .read .abs false opEor

/-- The meaning of EOR $hhll (R227). -/
def execEorAbs (lo hi : Byte) (s : State) : Host.Outcome State Fault Refusal :=
  runInstr (.eorAbs lo hi) progEorAbs s

/-- EOR $hhll,X (`$5D`): T_ABI_R (R129) with the operation of R227. -/
def progEorAbx : MicroProgram := .read .abx false opEor

/-- The meaning of EOR $hhll,X (R227). -/
def execEorAbx (lo hi : Byte) (s : State) : Host.Outcome State Fault Refusal :=
  runInstr (.eorAbx lo hi) progEorAbx s

/-- EOR $hhll,Y (`$59`): T_ABI_R (R129) with the operation of R227. -/
def progEorAby : MicroProgram := .read .aby false opEor

/-- The meaning of EOR $hhll,Y (R227). -/
def execEorAby (lo hi : Byte) (s : State) : Host.Outcome State Fault Refusal :=
  runInstr (.eorAby lo hi) progEorAby s

/-- EOR ($zz,X) (`$41`): T_IZX_R (R133) with the operation of R227. -/
def progEorIzx : MicroProgram := .read .izx false opEor

/-- The meaning of EOR ($zz,X) (R227). -/
def execEorIzx (zp : Byte) (s : State) : Host.Outcome State Fault Refusal :=
  runInstr (.eorIzx zp) progEorIzx s

/-- EOR ($zz),Y (`$51`): T_IZY_R (R135) with the operation of R227. -/
def progEorIzy : MicroProgram := .read .izy false opEor

/-- The meaning of EOR ($zz),Y (R227). -/
def execEorIzy (zp : Byte) (s : State) : Host.Outcome State Fault Refusal :=
  runInstr (.eorIzy zp) progEorIzy s

/-- EOR ($zz) (`$52`): T_IZP_R (R137) with the operation of R227. -/
def progEorIzp : MicroProgram := .read .izp false opEor

/-- The meaning of EOR ($zz) (R227). -/
def execEorIzp (zp : Byte) (s : State) : Host.Outcome State Fault Refusal :=
  runInstr (.eorIzp zp) progEorIzp s

/-- CMP #$nn (`$C9`): T_IMM (R119) with the operation of R228. -/
def progCmpImm : MicroProgram := .imm false opCmp

/-- The meaning of CMP #$nn (R228). -/
def execCmpImm (n : Byte) (s : State) : Host.Outcome State Fault Refusal :=
  runInstr (.cmpImm n) progCmpImm s

/-- CMP $zz (`$C5`): T_ZP_R (R120) with the operation of R228. -/
def progCmpZp : MicroProgram := .read .zp false opCmp

/-- The meaning of CMP $zz (R228). -/
def execCmpZp (zp : Byte) (s : State) : Host.Outcome State Fault Refusal :=
  runInstr (.cmpZp zp) progCmpZp s

/-- CMP $zz,X (`$D5`): T_ZPI_R (R123) with the operation of R228. -/
def progCmpZpx : MicroProgram := .read .zpx false opCmp

/-- The meaning of CMP $zz,X (R228). -/
def execCmpZpx (zp : Byte) (s : State) : Host.Outcome State Fault Refusal :=
  runInstr (.cmpZpx zp) progCmpZpx s

/-- CMP $hhll (`$CD`): T_ABS_R (R126) with the operation of R228. -/
def progCmpAbs : MicroProgram := .read .abs false opCmp

/-- The meaning of CMP $hhll (R228). -/
def execCmpAbs (lo hi : Byte) (s : State) : Host.Outcome State Fault Refusal :=
  runInstr (.cmpAbs lo hi) progCmpAbs s

/-- CMP $hhll,X (`$DD`): T_ABI_R (R129) with the operation of R228. -/
def progCmpAbx : MicroProgram := .read .abx false opCmp

/-- The meaning of CMP $hhll,X (R228). -/
def execCmpAbx (lo hi : Byte) (s : State) : Host.Outcome State Fault Refusal :=
  runInstr (.cmpAbx lo hi) progCmpAbx s

/-- CMP $hhll,Y (`$D9`): T_ABI_R (R129) with the operation of R228. -/
def progCmpAby : MicroProgram := .read .aby false opCmp

/-- The meaning of CMP $hhll,Y (R228). -/
def execCmpAby (lo hi : Byte) (s : State) : Host.Outcome State Fault Refusal :=
  runInstr (.cmpAby lo hi) progCmpAby s

/-- CMP ($zz,X) (`$C1`): T_IZX_R (R133) with the operation of R228. -/
def progCmpIzx : MicroProgram := .read .izx false opCmp

/-- The meaning of CMP ($zz,X) (R228). -/
def execCmpIzx (zp : Byte) (s : State) : Host.Outcome State Fault Refusal :=
  runInstr (.cmpIzx zp) progCmpIzx s

/-- CMP ($zz),Y (`$D1`): T_IZY_R (R135) with the operation of R228. -/
def progCmpIzy : MicroProgram := .read .izy false opCmp

/-- The meaning of CMP ($zz),Y (R228). -/
def execCmpIzy (zp : Byte) (s : State) : Host.Outcome State Fault Refusal :=
  runInstr (.cmpIzy zp) progCmpIzy s

/-- CMP ($zz) (`$D2`): T_IZP_R (R137) with the operation of R228. -/
def progCmpIzp : MicroProgram := .read .izp false opCmp

/-- The meaning of CMP ($zz) (R228). -/
def execCmpIzp (zp : Byte) (s : State) : Host.Outcome State Fault Refusal :=
  runInstr (.cmpIzp zp) progCmpIzp s

/-- CPX #$nn (`$E0`): T_IMM (R119) with the operation of R229. -/
def progCpxImm : MicroProgram := .imm false opCpx

/-- The meaning of CPX #$nn (R229). -/
def execCpxImm (n : Byte) (s : State) : Host.Outcome State Fault Refusal :=
  runInstr (.cpxImm n) progCpxImm s

/-- CPX $zz (`$E4`): T_ZP_R (R120) with the operation of R229. -/
def progCpxZp : MicroProgram := .read .zp false opCpx

/-- The meaning of CPX $zz (R229). -/
def execCpxZp (zp : Byte) (s : State) : Host.Outcome State Fault Refusal :=
  runInstr (.cpxZp zp) progCpxZp s

/-- CPX $hhll (`$EC`): T_ABS_R (R126) with the operation of R229. -/
def progCpxAbs : MicroProgram := .read .abs false opCpx

/-- The meaning of CPX $hhll (R229). -/
def execCpxAbs (lo hi : Byte) (s : State) : Host.Outcome State Fault Refusal :=
  runInstr (.cpxAbs lo hi) progCpxAbs s

/-- CPY #$nn (`$C0`): T_IMM (R119) with the operation of R230. -/
def progCpyImm : MicroProgram := .imm false opCpy

/-- The meaning of CPY #$nn (R230). -/
def execCpyImm (n : Byte) (s : State) : Host.Outcome State Fault Refusal :=
  runInstr (.cpyImm n) progCpyImm s

/-- CPY $zz (`$C4`): T_ZP_R (R120) with the operation of R230. -/
def progCpyZp : MicroProgram := .read .zp false opCpy

/-- The meaning of CPY $zz (R230). -/
def execCpyZp (zp : Byte) (s : State) : Host.Outcome State Fault Refusal :=
  runInstr (.cpyZp zp) progCpyZp s

/-- CPY $hhll (`$CC`): T_ABS_R (R126) with the operation of R230. -/
def progCpyAbs : MicroProgram := .read .abs false opCpy

/-- The meaning of CPY $hhll (R230). -/
def execCpyAbs (lo hi : Byte) (s : State) : Host.Outcome State Fault Refusal :=
  runInstr (.cpyAbs lo hi) progCpyAbs s

/-- BIT #$nn (`$89`): T_IMM (R119) with the operation of R231. -/
def progBitImm : MicroProgram := .imm false opBitImm

/-- The meaning of BIT #$nn (R231). -/
def execBitImm (n : Byte) (s : State) : Host.Outcome State Fault Refusal :=
  runInstr (.bitImm n) progBitImm s

/-- BIT $zz (`$24`): T_ZP_R (R120) with the operation of R231. -/
def progBitZp : MicroProgram := .read .zp false opBit

/-- The meaning of BIT $zz (R231). -/
def execBitZp (zp : Byte) (s : State) : Host.Outcome State Fault Refusal :=
  runInstr (.bitZp zp) progBitZp s

/-- BIT $zz,X (`$34`): T_ZPI_R (R123) with the operation of R231. -/
def progBitZpx : MicroProgram := .read .zpx false opBit

/-- The meaning of BIT $zz,X (R231). -/
def execBitZpx (zp : Byte) (s : State) : Host.Outcome State Fault Refusal :=
  runInstr (.bitZpx zp) progBitZpx s

/-- BIT $hhll (`$2C`): T_ABS_R (R126) with the operation of R231. -/
def progBitAbs : MicroProgram := .read .abs false opBit

/-- The meaning of BIT $hhll (R231). -/
def execBitAbs (lo hi : Byte) (s : State) : Host.Outcome State Fault Refusal :=
  runInstr (.bitAbs lo hi) progBitAbs s

/-- BIT $hhll,X (`$3C`): T_ABI_R (R129) with the operation of R231. -/
def progBitAbx : MicroProgram := .read .abx false opBit

/-- The meaning of BIT $hhll,X (R231). -/
def execBitAbx (lo hi : Byte) (s : State) : Host.Outcome State Fault Refusal :=
  runInstr (.bitAbx lo hi) progBitAbx s

end Sys2Proof.Machine
end

