-- ==== Sys2Proof/Machine/Branch.lean ====
section
/-! DEFINITION. Branches, jumps and subroutines (45_branch_jump.md): the injected operations, then for every opcode row its micro-op program and
its meaning, the run of that program. -/

namespace Sys2Proof.Machine

/-- BCC: taken when C is 0 (R281). -/
def condBcc (p : Flags) : Bool := !p.c

/-- BCS: taken when C is 1 (R282). -/
def condBcs (p : Flags) : Bool := p.c

/-- BEQ: taken when Z is 1 (R283). -/
def condBeq (p : Flags) : Bool := p.z

/-- BNE: taken when Z is 0 (R284). -/
def condBne (p : Flags) : Bool := !p.z

/-- BMI: taken when N is 1 (R285). -/
def condBmi (p : Flags) : Bool := p.n

/-- BPL: taken when N is 0 (R286). -/
def condBpl (p : Flags) : Bool := !p.n

/-- BVC: taken when V is 0 (R287). -/
def condBvc (p : Flags) : Bool := !p.v

/-- BVS: taken when V is 1 (R288). -/
def condBvs (p : Flags) : Bool := p.v

/-- BRA: always taken (R289). -/
def condBra (_ : Flags) : Bool := true

/-- BCC label (`$90`): T_REL (R139) with the operation of R281. -/
def progBcc : MicroProgram := .branch condBcc

/-- The meaning of BCC label (R281). -/
def execBcc (off : Byte) (s : State) : Host.Outcome State Fault Refusal :=
  runInstr (.bcc off) progBcc s

/-- BCS label (`$B0`): T_REL (R139) with the operation of R282. -/
def progBcs : MicroProgram := .branch condBcs

/-- The meaning of BCS label (R282). -/
def execBcs (off : Byte) (s : State) : Host.Outcome State Fault Refusal :=
  runInstr (.bcs off) progBcs s

/-- BEQ label (`$F0`): T_REL (R139) with the operation of R283. -/
def progBeq : MicroProgram := .branch condBeq

/-- The meaning of BEQ label (R283). -/
def execBeq (off : Byte) (s : State) : Host.Outcome State Fault Refusal :=
  runInstr (.beq off) progBeq s

/-- BNE label (`$D0`): T_REL (R139) with the operation of R284. -/
def progBne : MicroProgram := .branch condBne

/-- The meaning of BNE label (R284). -/
def execBne (off : Byte) (s : State) : Host.Outcome State Fault Refusal :=
  runInstr (.bne off) progBne s

/-- BMI label (`$30`): T_REL (R139) with the operation of R285. -/
def progBmi : MicroProgram := .branch condBmi

/-- The meaning of BMI label (R285). -/
def execBmi (off : Byte) (s : State) : Host.Outcome State Fault Refusal :=
  runInstr (.bmi off) progBmi s

/-- BPL label (`$10`): T_REL (R139) with the operation of R286. -/
def progBpl : MicroProgram := .branch condBpl

/-- The meaning of BPL label (R286). -/
def execBpl (off : Byte) (s : State) : Host.Outcome State Fault Refusal :=
  runInstr (.bpl off) progBpl s

/-- BVC label (`$50`): T_REL (R139) with the operation of R287. -/
def progBvc : MicroProgram := .branch condBvc

/-- The meaning of BVC label (R287). -/
def execBvc (off : Byte) (s : State) : Host.Outcome State Fault Refusal :=
  runInstr (.bvc off) progBvc s

/-- BVS label (`$70`): T_REL (R139) with the operation of R288. -/
def progBvs : MicroProgram := .branch condBvs

/-- The meaning of BVS label (R288). -/
def execBvs (off : Byte) (s : State) : Host.Outcome State Fault Refusal :=
  runInstr (.bvs off) progBvs s

/-- BRA label (`$80`): T_REL (R139) with the operation of R289. -/
def progBra : MicroProgram := .branch condBra

/-- The meaning of BRA label (R289). -/
def execBra (off : Byte) (s : State) : Host.Outcome State Fault Refusal :=
  runInstr (.bra off) progBra s

/-- BBR0 $zz,label (`$0F`): T_ZPREL (R140) with the operation of R290. -/
def progBbr0 : MicroProgram := .bitBranch 0 false

/-- The meaning of BBR0 $zz,label (R290). -/
def execBbr0 (zp off : Byte) (s : State) : Host.Outcome State Fault Refusal :=
  runInstr (.bbr0 zp off) progBbr0 s

/-- BBR1 $zz,label (`$1F`): T_ZPREL (R140) with the operation of R290. -/
def progBbr1 : MicroProgram := .bitBranch 1 false

/-- The meaning of BBR1 $zz,label (R290). -/
def execBbr1 (zp off : Byte) (s : State) : Host.Outcome State Fault Refusal :=
  runInstr (.bbr1 zp off) progBbr1 s

/-- BBR2 $zz,label (`$2F`): T_ZPREL (R140) with the operation of R290. -/
def progBbr2 : MicroProgram := .bitBranch 2 false

/-- The meaning of BBR2 $zz,label (R290). -/
def execBbr2 (zp off : Byte) (s : State) : Host.Outcome State Fault Refusal :=
  runInstr (.bbr2 zp off) progBbr2 s

/-- BBR3 $zz,label (`$3F`): T_ZPREL (R140) with the operation of R290. -/
def progBbr3 : MicroProgram := .bitBranch 3 false

/-- The meaning of BBR3 $zz,label (R290). -/
def execBbr3 (zp off : Byte) (s : State) : Host.Outcome State Fault Refusal :=
  runInstr (.bbr3 zp off) progBbr3 s

/-- BBR4 $zz,label (`$4F`): T_ZPREL (R140) with the operation of R290. -/
def progBbr4 : MicroProgram := .bitBranch 4 false

/-- The meaning of BBR4 $zz,label (R290). -/
def execBbr4 (zp off : Byte) (s : State) : Host.Outcome State Fault Refusal :=
  runInstr (.bbr4 zp off) progBbr4 s

/-- BBR5 $zz,label (`$5F`): T_ZPREL (R140) with the operation of R290. -/
def progBbr5 : MicroProgram := .bitBranch 5 false

/-- The meaning of BBR5 $zz,label (R290). -/
def execBbr5 (zp off : Byte) (s : State) : Host.Outcome State Fault Refusal :=
  runInstr (.bbr5 zp off) progBbr5 s

/-- BBR6 $zz,label (`$6F`): T_ZPREL (R140) with the operation of R290. -/
def progBbr6 : MicroProgram := .bitBranch 6 false

/-- The meaning of BBR6 $zz,label (R290). -/
def execBbr6 (zp off : Byte) (s : State) : Host.Outcome State Fault Refusal :=
  runInstr (.bbr6 zp off) progBbr6 s

/-- BBR7 $zz,label (`$7F`): T_ZPREL (R140) with the operation of R290. -/
def progBbr7 : MicroProgram := .bitBranch 7 false

/-- The meaning of BBR7 $zz,label (R290). -/
def execBbr7 (zp off : Byte) (s : State) : Host.Outcome State Fault Refusal :=
  runInstr (.bbr7 zp off) progBbr7 s

/-- BBS0 $zz,label (`$8F`): T_ZPREL (R140) with the operation of R291. -/
def progBbs0 : MicroProgram := .bitBranch 0 true

/-- The meaning of BBS0 $zz,label (R291). -/
def execBbs0 (zp off : Byte) (s : State) : Host.Outcome State Fault Refusal :=
  runInstr (.bbs0 zp off) progBbs0 s

/-- BBS1 $zz,label (`$9F`): T_ZPREL (R140) with the operation of R291. -/
def progBbs1 : MicroProgram := .bitBranch 1 true

/-- The meaning of BBS1 $zz,label (R291). -/
def execBbs1 (zp off : Byte) (s : State) : Host.Outcome State Fault Refusal :=
  runInstr (.bbs1 zp off) progBbs1 s

/-- BBS2 $zz,label (`$AF`): T_ZPREL (R140) with the operation of R291. -/
def progBbs2 : MicroProgram := .bitBranch 2 true

/-- The meaning of BBS2 $zz,label (R291). -/
def execBbs2 (zp off : Byte) (s : State) : Host.Outcome State Fault Refusal :=
  runInstr (.bbs2 zp off) progBbs2 s

/-- BBS3 $zz,label (`$BF`): T_ZPREL (R140) with the operation of R291. -/
def progBbs3 : MicroProgram := .bitBranch 3 true

/-- The meaning of BBS3 $zz,label (R291). -/
def execBbs3 (zp off : Byte) (s : State) : Host.Outcome State Fault Refusal :=
  runInstr (.bbs3 zp off) progBbs3 s

/-- BBS4 $zz,label (`$CF`): T_ZPREL (R140) with the operation of R291. -/
def progBbs4 : MicroProgram := .bitBranch 4 true

/-- The meaning of BBS4 $zz,label (R291). -/
def execBbs4 (zp off : Byte) (s : State) : Host.Outcome State Fault Refusal :=
  runInstr (.bbs4 zp off) progBbs4 s

/-- BBS5 $zz,label (`$DF`): T_ZPREL (R140) with the operation of R291. -/
def progBbs5 : MicroProgram := .bitBranch 5 true

/-- The meaning of BBS5 $zz,label (R291). -/
def execBbs5 (zp off : Byte) (s : State) : Host.Outcome State Fault Refusal :=
  runInstr (.bbs5 zp off) progBbs5 s

/-- BBS6 $zz,label (`$EF`): T_ZPREL (R140) with the operation of R291. -/
def progBbs6 : MicroProgram := .bitBranch 6 true

/-- The meaning of BBS6 $zz,label (R291). -/
def execBbs6 (zp off : Byte) (s : State) : Host.Outcome State Fault Refusal :=
  runInstr (.bbs6 zp off) progBbs6 s

/-- BBS7 $zz,label (`$FF`): T_ZPREL (R140) with the operation of R291. -/
def progBbs7 : MicroProgram := .bitBranch 7 true

/-- The meaning of BBS7 $zz,label (R291). -/
def execBbs7 (zp off : Byte) (s : State) : Host.Outcome State Fault Refusal :=
  runInstr (.bbs7 zp off) progBbs7 s

/-- JMP $hhll (`$4C`): T_JMP_ABS (R141) with the operation of R292. -/
def progJmpAbs : MicroProgram := .jmpAbs

/-- The meaning of JMP $hhll (R292). -/
def execJmpAbs (lo hi : Byte) (s : State) : Host.Outcome State Fault Refusal :=
  runInstr (.jmpAbs lo hi) progJmpAbs s

/-- JMP ($hhll) (`$6C`): T_JMP_IND (R142) with the operation of R293. -/
def progJmpInd : MicroProgram := .jmpInd

/-- The meaning of JMP ($hhll) (R293). -/
def execJmpInd (lo hi : Byte) (s : State) : Host.Outcome State Fault Refusal :=
  runInstr (.jmpInd lo hi) progJmpInd s

/-- JMP ($hhll,X) (`$7C`): T_JMP_IAX (R143) with the operation of R294. -/
def progJmpIax : MicroProgram := .jmpIax

/-- The meaning of JMP ($hhll,X) (R294). -/
def execJmpIax (lo hi : Byte) (s : State) : Host.Outcome State Fault Refusal :=
  runInstr (.jmpIax lo hi) progJmpIax s

/-- JSR $hhll (`$20`): T_JSR (R144) with the operation of R295. -/
def progJsr : MicroProgram := .jsr

/-- The meaning of JSR $hhll (R295). -/
def execJsr (lo hi : Byte) (s : State) : Host.Outcome State Fault Refusal :=
  runInstr (.jsr lo hi) progJsr s

/-- RTS (`$60`): T_RTS (R145) with the operation of R296. -/
def progRts : MicroProgram := .rts

/-- The meaning of RTS (R296). -/
def execRts (s : State) : Host.Outcome State Fault Refusal :=
  runInstr .rts progRts s

end Sys2Proof.Machine
end

