-- ==== Sys2Proof/Machine/LoadStore.lean ====
section
/-! DEFINITION. Loads, stores and transfers (41_load_store_transfer.md): the injected operations, then for every opcode row its micro-op program and
its meaning, the run of that program. -/

namespace Sys2Proof.Machine

/-- LDA: `A <- M; SetNZ(M)` (R171). -/
def opLda (m : Byte) (r : Regs) : Regs := { r with a := m, p := setNZ m r.p }

/-- LDX: `X <- M; SetNZ(M)` (R172). -/
def opLdx (m : Byte) (r : Regs) : Regs := { r with x := m, p := setNZ m r.p }

/-- LDY: `Y <- M; SetNZ(M)` (R173). -/
def opLdy (m : Byte) (r : Regs) : Regs := { r with y := m, p := setNZ m r.p }

/-- The byte STZ stores (R177). -/
def zeroByte (_ : Regs) : Byte := 0x00#8

/-- TAX: `X <- A; SetNZ(A)` (R178). -/
def opTax (r : Regs) : Regs := { r with x := r.a, p := setNZ r.a r.p }

/-- TAY: `Y <- A; SetNZ(A)` (R179). -/
def opTay (r : Regs) : Regs := { r with y := r.a, p := setNZ r.a r.p }

/-- TXA: `A <- X; SetNZ(X)` (R180). -/
def opTxa (r : Regs) : Regs := { r with a := r.x, p := setNZ r.x r.p }

/-- TYA: `A <- Y; SetNZ(Y)` (R181). -/
def opTya (r : Regs) : Regs := { r with a := r.y, p := setNZ r.y r.p }

/-- TSX: `X <- S; SetNZ(S)` (R182). -/
def opTsx (r : Regs) : Regs := { r with x := r.sp, p := setNZ r.sp r.p }

/-- TXS: `S <- X`, no flag (R183). -/
def opTxs (r : Regs) : Regs := { r with sp := r.x }

/-- LDA #$nn (`$A9`): T_IMM (R119) with the operation of R171. -/
def progLdaImm : MicroProgram := .imm false opLda

/-- The meaning of LDA #$nn (R171). -/
def execLdaImm (n : Byte) (s : State) : Host.Outcome State Fault Refusal :=
  runInstr (.ldaImm n) progLdaImm s

/-- LDA $zz (`$A5`): T_ZP_R (R120) with the operation of R171. -/
def progLdaZp : MicroProgram := .read .zp false opLda

/-- The meaning of LDA $zz (R171). -/
def execLdaZp (zp : Byte) (s : State) : Host.Outcome State Fault Refusal :=
  runInstr (.ldaZp zp) progLdaZp s

/-- LDA $zz,X (`$B5`): T_ZPI_R (R123) with the operation of R171. -/
def progLdaZpx : MicroProgram := .read .zpx false opLda

/-- The meaning of LDA $zz,X (R171). -/
def execLdaZpx (zp : Byte) (s : State) : Host.Outcome State Fault Refusal :=
  runInstr (.ldaZpx zp) progLdaZpx s

/-- LDA $hhll (`$AD`): T_ABS_R (R126) with the operation of R171. -/
def progLdaAbs : MicroProgram := .read .abs false opLda

/-- The meaning of LDA $hhll (R171). -/
def execLdaAbs (lo hi : Byte) (s : State) : Host.Outcome State Fault Refusal :=
  runInstr (.ldaAbs lo hi) progLdaAbs s

/-- LDA $hhll,X (`$BD`): T_ABI_R (R129) with the operation of R171. -/
def progLdaAbx : MicroProgram := .read .abx false opLda

/-- The meaning of LDA $hhll,X (R171). -/
def execLdaAbx (lo hi : Byte) (s : State) : Host.Outcome State Fault Refusal :=
  runInstr (.ldaAbx lo hi) progLdaAbx s

/-- LDA $hhll,Y (`$B9`): T_ABI_R (R129) with the operation of R171. -/
def progLdaAby : MicroProgram := .read .aby false opLda

/-- The meaning of LDA $hhll,Y (R171). -/
def execLdaAby (lo hi : Byte) (s : State) : Host.Outcome State Fault Refusal :=
  runInstr (.ldaAby lo hi) progLdaAby s

/-- LDA ($zz,X) (`$A1`): T_IZX_R (R133) with the operation of R171. -/
def progLdaIzx : MicroProgram := .read .izx false opLda

/-- The meaning of LDA ($zz,X) (R171). -/
def execLdaIzx (zp : Byte) (s : State) : Host.Outcome State Fault Refusal :=
  runInstr (.ldaIzx zp) progLdaIzx s

/-- LDA ($zz),Y (`$B1`): T_IZY_R (R135) with the operation of R171. -/
def progLdaIzy : MicroProgram := .read .izy false opLda

/-- The meaning of LDA ($zz),Y (R171). -/
def execLdaIzy (zp : Byte) (s : State) : Host.Outcome State Fault Refusal :=
  runInstr (.ldaIzy zp) progLdaIzy s

/-- LDA ($zz) (`$B2`): T_IZP_R (R137) with the operation of R171. -/
def progLdaIzp : MicroProgram := .read .izp false opLda

/-- The meaning of LDA ($zz) (R171). -/
def execLdaIzp (zp : Byte) (s : State) : Host.Outcome State Fault Refusal :=
  runInstr (.ldaIzp zp) progLdaIzp s

/-- LDX #$nn (`$A2`): T_IMM (R119) with the operation of R172. -/
def progLdxImm : MicroProgram := .imm false opLdx

/-- The meaning of LDX #$nn (R172). -/
def execLdxImm (n : Byte) (s : State) : Host.Outcome State Fault Refusal :=
  runInstr (.ldxImm n) progLdxImm s

/-- LDX $zz (`$A6`): T_ZP_R (R120) with the operation of R172. -/
def progLdxZp : MicroProgram := .read .zp false opLdx

/-- The meaning of LDX $zz (R172). -/
def execLdxZp (zp : Byte) (s : State) : Host.Outcome State Fault Refusal :=
  runInstr (.ldxZp zp) progLdxZp s

/-- LDX $zz,Y (`$B6`): T_ZPI_R (R123) with the operation of R172. -/
def progLdxZpy : MicroProgram := .read .zpy false opLdx

/-- The meaning of LDX $zz,Y (R172). -/
def execLdxZpy (zp : Byte) (s : State) : Host.Outcome State Fault Refusal :=
  runInstr (.ldxZpy zp) progLdxZpy s

/-- LDX $hhll (`$AE`): T_ABS_R (R126) with the operation of R172. -/
def progLdxAbs : MicroProgram := .read .abs false opLdx

/-- The meaning of LDX $hhll (R172). -/
def execLdxAbs (lo hi : Byte) (s : State) : Host.Outcome State Fault Refusal :=
  runInstr (.ldxAbs lo hi) progLdxAbs s

/-- LDX $hhll,Y (`$BE`): T_ABI_R (R129) with the operation of R172. -/
def progLdxAby : MicroProgram := .read .aby false opLdx

/-- The meaning of LDX $hhll,Y (R172). -/
def execLdxAby (lo hi : Byte) (s : State) : Host.Outcome State Fault Refusal :=
  runInstr (.ldxAby lo hi) progLdxAby s

/-- LDY #$nn (`$A0`): T_IMM (R119) with the operation of R173. -/
def progLdyImm : MicroProgram := .imm false opLdy

/-- The meaning of LDY #$nn (R173). -/
def execLdyImm (n : Byte) (s : State) : Host.Outcome State Fault Refusal :=
  runInstr (.ldyImm n) progLdyImm s

/-- LDY $zz (`$A4`): T_ZP_R (R120) with the operation of R173. -/
def progLdyZp : MicroProgram := .read .zp false opLdy

/-- The meaning of LDY $zz (R173). -/
def execLdyZp (zp : Byte) (s : State) : Host.Outcome State Fault Refusal :=
  runInstr (.ldyZp zp) progLdyZp s

/-- LDY $zz,X (`$B4`): T_ZPI_R (R123) with the operation of R173. -/
def progLdyZpx : MicroProgram := .read .zpx false opLdy

/-- The meaning of LDY $zz,X (R173). -/
def execLdyZpx (zp : Byte) (s : State) : Host.Outcome State Fault Refusal :=
  runInstr (.ldyZpx zp) progLdyZpx s

/-- LDY $hhll (`$AC`): T_ABS_R (R126) with the operation of R173. -/
def progLdyAbs : MicroProgram := .read .abs false opLdy

/-- The meaning of LDY $hhll (R173). -/
def execLdyAbs (lo hi : Byte) (s : State) : Host.Outcome State Fault Refusal :=
  runInstr (.ldyAbs lo hi) progLdyAbs s

/-- LDY $hhll,X (`$BC`): T_ABI_R (R129) with the operation of R173. -/
def progLdyAbx : MicroProgram := .read .abx false opLdy

/-- The meaning of LDY $hhll,X (R173). -/
def execLdyAbx (lo hi : Byte) (s : State) : Host.Outcome State Fault Refusal :=
  runInstr (.ldyAbx lo hi) progLdyAbx s

/-- STA $zz (`$85`): T_ZP_W (R121) with the operation of R174. -/
def progStaZp : MicroProgram := .write .zp Regs.a

/-- The meaning of STA $zz (R174). -/
def execStaZp (zp : Byte) (s : State) : Host.Outcome State Fault Refusal :=
  runInstr (.staZp zp) progStaZp s

/-- STA $zz,X (`$95`): T_ZPI_W (R124) with the operation of R174. -/
def progStaZpx : MicroProgram := .write .zpx Regs.a

/-- The meaning of STA $zz,X (R174). -/
def execStaZpx (zp : Byte) (s : State) : Host.Outcome State Fault Refusal :=
  runInstr (.staZpx zp) progStaZpx s

/-- STA $hhll (`$8D`): T_ABS_W (R127) with the operation of R174. -/
def progStaAbs : MicroProgram := .write .abs Regs.a

/-- The meaning of STA $hhll (R174). -/
def execStaAbs (lo hi : Byte) (s : State) : Host.Outcome State Fault Refusal :=
  runInstr (.staAbs lo hi) progStaAbs s

/-- STA $hhll,X (`$9D`): T_ABI_W (R130) with the operation of R174. -/
def progStaAbx : MicroProgram := .write .abx Regs.a

/-- The meaning of STA $hhll,X (R174). -/
def execStaAbx (lo hi : Byte) (s : State) : Host.Outcome State Fault Refusal :=
  runInstr (.staAbx lo hi) progStaAbx s

/-- STA $hhll,Y (`$99`): T_ABI_W (R130) with the operation of R174. -/
def progStaAby : MicroProgram := .write .aby Regs.a

/-- The meaning of STA $hhll,Y (R174). -/
def execStaAby (lo hi : Byte) (s : State) : Host.Outcome State Fault Refusal :=
  runInstr (.staAby lo hi) progStaAby s

/-- STA ($zz,X) (`$81`): T_IZX_W (R134) with the operation of R174. -/
def progStaIzx : MicroProgram := .write .izx Regs.a

/-- The meaning of STA ($zz,X) (R174). -/
def execStaIzx (zp : Byte) (s : State) : Host.Outcome State Fault Refusal :=
  runInstr (.staIzx zp) progStaIzx s

/-- STA ($zz),Y (`$91`): T_IZY_W (R136) with the operation of R174. -/
def progStaIzy : MicroProgram := .write .izy Regs.a

/-- The meaning of STA ($zz),Y (R174). -/
def execStaIzy (zp : Byte) (s : State) : Host.Outcome State Fault Refusal :=
  runInstr (.staIzy zp) progStaIzy s

/-- STA ($zz) (`$92`): T_IZP_W (R138) with the operation of R174. -/
def progStaIzp : MicroProgram := .write .izp Regs.a

/-- The meaning of STA ($zz) (R174). -/
def execStaIzp (zp : Byte) (s : State) : Host.Outcome State Fault Refusal :=
  runInstr (.staIzp zp) progStaIzp s

/-- STX $zz (`$86`): T_ZP_W (R121) with the operation of R175. -/
def progStxZp : MicroProgram := .write .zp Regs.x

/-- The meaning of STX $zz (R175). -/
def execStxZp (zp : Byte) (s : State) : Host.Outcome State Fault Refusal :=
  runInstr (.stxZp zp) progStxZp s

/-- STX $zz,Y (`$96`): T_ZPI_W (R124) with the operation of R175. -/
def progStxZpy : MicroProgram := .write .zpy Regs.x

/-- The meaning of STX $zz,Y (R175). -/
def execStxZpy (zp : Byte) (s : State) : Host.Outcome State Fault Refusal :=
  runInstr (.stxZpy zp) progStxZpy s

/-- STX $hhll (`$8E`): T_ABS_W (R127) with the operation of R175. -/
def progStxAbs : MicroProgram := .write .abs Regs.x

/-- The meaning of STX $hhll (R175). -/
def execStxAbs (lo hi : Byte) (s : State) : Host.Outcome State Fault Refusal :=
  runInstr (.stxAbs lo hi) progStxAbs s

/-- STY $zz (`$84`): T_ZP_W (R121) with the operation of R176. -/
def progStyZp : MicroProgram := .write .zp Regs.y

/-- The meaning of STY $zz (R176). -/
def execStyZp (zp : Byte) (s : State) : Host.Outcome State Fault Refusal :=
  runInstr (.styZp zp) progStyZp s

/-- STY $zz,X (`$94`): T_ZPI_W (R124) with the operation of R176. -/
def progStyZpx : MicroProgram := .write .zpx Regs.y

/-- The meaning of STY $zz,X (R176). -/
def execStyZpx (zp : Byte) (s : State) : Host.Outcome State Fault Refusal :=
  runInstr (.styZpx zp) progStyZpx s

/-- STY $hhll (`$8C`): T_ABS_W (R127) with the operation of R176. -/
def progStyAbs : MicroProgram := .write .abs Regs.y

/-- The meaning of STY $hhll (R176). -/
def execStyAbs (lo hi : Byte) (s : State) : Host.Outcome State Fault Refusal :=
  runInstr (.styAbs lo hi) progStyAbs s

/-- STZ $zz (`$64`): T_ZP_W (R121) with the operation of R177. -/
def progStzZp : MicroProgram := .write .zp zeroByte

/-- The meaning of STZ $zz (R177). -/
def execStzZp (zp : Byte) (s : State) : Host.Outcome State Fault Refusal :=
  runInstr (.stzZp zp) progStzZp s

/-- STZ $zz,X (`$74`): T_ZPI_W (R124) with the operation of R177. -/
def progStzZpx : MicroProgram := .write .zpx zeroByte

/-- The meaning of STZ $zz,X (R177). -/
def execStzZpx (zp : Byte) (s : State) : Host.Outcome State Fault Refusal :=
  runInstr (.stzZpx zp) progStzZpx s

/-- STZ $hhll (`$9C`): T_ABS_W (R127) with the operation of R177. -/
def progStzAbs : MicroProgram := .write .abs zeroByte

/-- The meaning of STZ $hhll (R177). -/
def execStzAbs (lo hi : Byte) (s : State) : Host.Outcome State Fault Refusal :=
  runInstr (.stzAbs lo hi) progStzAbs s

/-- STZ $hhll,X (`$9E`): T_ABI_W (R130) with the operation of R177. -/
def progStzAbx : MicroProgram := .write .abx zeroByte

/-- The meaning of STZ $hhll,X (R177). -/
def execStzAbx (lo hi : Byte) (s : State) : Host.Outcome State Fault Refusal :=
  runInstr (.stzAbx lo hi) progStzAbx s

/-- TAX (`$AA`): T_IMP (R118) with the operation of R178. -/
def progTax : MicroProgram := .imp opTax

/-- The meaning of TAX (R178). -/
def execTax (s : State) : Host.Outcome State Fault Refusal :=
  runInstr .tax progTax s

/-- TAY (`$A8`): T_IMP (R118) with the operation of R179. -/
def progTay : MicroProgram := .imp opTay

/-- The meaning of TAY (R179). -/
def execTay (s : State) : Host.Outcome State Fault Refusal :=
  runInstr .tay progTay s

/-- TXA (`$8A`): T_IMP (R118) with the operation of R180. -/
def progTxa : MicroProgram := .imp opTxa

/-- The meaning of TXA (R180). -/
def execTxa (s : State) : Host.Outcome State Fault Refusal :=
  runInstr .txa progTxa s

/-- TYA (`$98`): T_IMP (R118) with the operation of R181. -/
def progTya : MicroProgram := .imp opTya

/-- The meaning of TYA (R181). -/
def execTya (s : State) : Host.Outcome State Fault Refusal :=
  runInstr .tya progTya s

/-- TSX (`$BA`): T_IMP (R118) with the operation of R182. -/
def progTsx : MicroProgram := .imp opTsx

/-- The meaning of TSX (R182). -/
def execTsx (s : State) : Host.Outcome State Fault Refusal :=
  runInstr .tsx progTsx s

/-- TXS (`$9A`): T_IMP (R118) with the operation of R183. -/
def progTxs : MicroProgram := .imp opTxs

/-- The meaning of TXS (R183). -/
def execTxs (s : State) : Host.Outcome State Fault Refusal :=
  runInstr .txs progTxs s

end Sys2Proof.Machine
end

