-- ==== Sys2Proof/Machine/Rmw.lean ====
section
/-! DEFINITION. Shifts, rotates, increments, decrements and memory bit operations (44_rmw.md): the injected operations, then for every opcode row its micro-op program and
its meaning, the run of that program. -/

namespace Sys2Proof.Machine

/-! Each instruction of 44_rmw.md that has a memory form is a pair: `res` the byte `r` written back, `fl` the flags. -/

/-- The `acc` form: "M is A and r is written to A" (R250). -/
def onAcc (res : Byte → Regs → Byte) (fl : Byte → Regs → Flags) (r : Regs) : Regs :=
  { r with a := res r.a r, p := fl r.a r }

/-- ASL: `r <- (M << 1)[7:0]` (R251). -/
def resAsl (m : Byte) (_ : Regs) : Byte := aslByte m

/-- ASL: `P.C <- M[7]; SetNZ(r)` (R251). -/
def flAsl (m : Byte) (r : Regs) : Flags := leftFlags m (aslByte m) r.p

/-- LSR: `r <- M >> 1` (R252). -/
def resLsr (m : Byte) (_ : Regs) : Byte := lsrByte m

/-- LSR: `P.C <- M[0]; SetNZ(r)` (R252). -/
def flLsr (m : Byte) (r : Regs) : Flags := rightFlags m (lsrByte m) r.p

/-- ROL: a left rotate through the carry before the instruction (R253). -/
def resRol (m : Byte) (r : Regs) : Byte := rolByte m r.p.c

/-- ROL: `P.C <- M[7]; SetNZ(r)` (R253). -/
def flRol (m : Byte) (r : Regs) : Flags := leftFlags m (rolByte m r.p.c) r.p

/-- ROR: a right rotate through the carry before the instruction (R254). -/
def resRor (m : Byte) (r : Regs) : Byte := rorByte m r.p.c

/-- ROR: `P.C <- M[0]; SetNZ(r)` (R254). -/
def flRor (m : Byte) (r : Regs) : Flags := rightFlags m (rorByte m r.p.c) r.p

/-- INC: `r <- M +8 1` (R255). -/
def resInc (m : Byte) (_ : Regs) : Byte := m + 1#8

/-- INC: `SetNZ(r)` (R255). -/
def flInc (m : Byte) (r : Regs) : Flags := setNZ (m + 1#8) r.p

/-- DEC: `r <- M -8 1` (R256). -/
def resDec (m : Byte) (_ : Regs) : Byte := m - 1#8

/-- DEC: `SetNZ(r)` (R256). -/
def flDec (m : Byte) (r : Regs) : Flags := setNZ (m - 1#8) r.p

/-- INX: `X <- X +8 1; SetNZ(X)` (R257). -/
def opInx (r : Regs) : Regs := { r with x := r.x + 1#8, p := setNZ (r.x + 1#8) r.p }

/-- INY: `Y <- Y +8 1; SetNZ(Y)` (R258). -/
def opIny (r : Regs) : Regs := { r with y := r.y + 1#8, p := setNZ (r.y + 1#8) r.p }

/-- DEX: `X <- X -8 1; SetNZ(X)` (R259). -/
def opDex (r : Regs) : Regs := { r with x := r.x - 1#8, p := setNZ (r.x - 1#8) r.p }

/-- DEY: `Y <- Y -8 1; SetNZ(Y)` (R260). -/
def opDey (r : Regs) : Regs := { r with y := r.y - 1#8, p := setNZ (r.y - 1#8) r.p }

/-- TSB: `r <- M | A` (R261). -/
def resTsb (m : Byte) (r : Regs) : Byte := m ||| r.a

/-- TSB: `P.Z <- ((A & M) == 0)`, on the value before the set (R261). -/
def flTsb (m : Byte) (r : Regs) : Flags := testFlags r.a m r.p

/-- TRB: `r <- M & ~A` (R262). -/
def resTrb (m : Byte) (r : Regs) : Byte := m &&& ~~~r.a

/-- TRB: `P.Z <- ((A & M) == 0)` (R262). -/
def flTrb (m : Byte) (r : Regs) : Flags := testFlags r.a m r.p

/-- RMBn: `r <- M & ~(1 << n)` (R263). -/
def resRmb (n : Nat) (m : Byte) (_ : Regs) : Byte := m &&& ~~~(bitMask n)

/-- SMBn: `r <- M | (1 << n)` (R264). -/
def resSmb (n : Nat) (m : Byte) (_ : Regs) : Byte := m ||| bitMask n

/-- RMBn and SMBn write no flag (R263, R264). -/
def flKeep (_ : Byte) (r : Regs) : Flags := r.p

/-- ASL A (`$0A`): T_IMP (R118) with the operation of R251. -/
def progAslAcc : MicroProgram := .imp (onAcc resAsl flAsl)

/-- The meaning of ASL A (R251). -/
def execAslAcc (s : State) : Host.Outcome State Fault Refusal :=
  runInstr .aslAcc progAslAcc s

/-- ASL $zz (`$06`): T_ZP_M (R122) with the operation of R251. -/
def progAslZp : MicroProgram := .modify .zp false resAsl flAsl

/-- The meaning of ASL $zz (R251). -/
def execAslZp (zp : Byte) (s : State) : Host.Outcome State Fault Refusal :=
  runInstr (.aslZp zp) progAslZp s

/-- ASL $zz,X (`$16`): T_ZPX_M (R125) with the operation of R251. -/
def progAslZpx : MicroProgram := .modify .zpx false resAsl flAsl

/-- The meaning of ASL $zz,X (R251). -/
def execAslZpx (zp : Byte) (s : State) : Host.Outcome State Fault Refusal :=
  runInstr (.aslZpx zp) progAslZpx s

/-- ASL $hhll (`$0E`): T_ABS_M (R128) with the operation of R251. -/
def progAslAbs : MicroProgram := .modify .abs false resAsl flAsl

/-- The meaning of ASL $hhll (R251). -/
def execAslAbs (lo hi : Byte) (s : State) : Host.Outcome State Fault Refusal :=
  runInstr (.aslAbs lo hi) progAslAbs s

/-- ASL $hhll,X (`$1E`): T_ABX_M (R131) with the operation of R251. -/
def progAslAbx : MicroProgram := .modify .abx false resAsl flAsl

/-- The meaning of ASL $hhll,X (R251). -/
def execAslAbx (lo hi : Byte) (s : State) : Host.Outcome State Fault Refusal :=
  runInstr (.aslAbx lo hi) progAslAbx s

/-- LSR A (`$4A`): T_IMP (R118) with the operation of R252. -/
def progLsrAcc : MicroProgram := .imp (onAcc resLsr flLsr)

/-- The meaning of LSR A (R252). -/
def execLsrAcc (s : State) : Host.Outcome State Fault Refusal :=
  runInstr .lsrAcc progLsrAcc s

/-- LSR $zz (`$46`): T_ZP_M (R122) with the operation of R252. -/
def progLsrZp : MicroProgram := .modify .zp false resLsr flLsr

/-- The meaning of LSR $zz (R252). -/
def execLsrZp (zp : Byte) (s : State) : Host.Outcome State Fault Refusal :=
  runInstr (.lsrZp zp) progLsrZp s

/-- LSR $zz,X (`$56`): T_ZPX_M (R125) with the operation of R252. -/
def progLsrZpx : MicroProgram := .modify .zpx false resLsr flLsr

/-- The meaning of LSR $zz,X (R252). -/
def execLsrZpx (zp : Byte) (s : State) : Host.Outcome State Fault Refusal :=
  runInstr (.lsrZpx zp) progLsrZpx s

/-- LSR $hhll (`$4E`): T_ABS_M (R128) with the operation of R252. -/
def progLsrAbs : MicroProgram := .modify .abs false resLsr flLsr

/-- The meaning of LSR $hhll (R252). -/
def execLsrAbs (lo hi : Byte) (s : State) : Host.Outcome State Fault Refusal :=
  runInstr (.lsrAbs lo hi) progLsrAbs s

/-- LSR $hhll,X (`$5E`): T_ABX_M (R131) with the operation of R252. -/
def progLsrAbx : MicroProgram := .modify .abx false resLsr flLsr

/-- The meaning of LSR $hhll,X (R252). -/
def execLsrAbx (lo hi : Byte) (s : State) : Host.Outcome State Fault Refusal :=
  runInstr (.lsrAbx lo hi) progLsrAbx s

/-- ROL A (`$2A`): T_IMP (R118) with the operation of R253. -/
def progRolAcc : MicroProgram := .imp (onAcc resRol flRol)

/-- The meaning of ROL A (R253). -/
def execRolAcc (s : State) : Host.Outcome State Fault Refusal :=
  runInstr .rolAcc progRolAcc s

/-- ROL $zz (`$26`): T_ZP_M (R122) with the operation of R253. -/
def progRolZp : MicroProgram := .modify .zp false resRol flRol

/-- The meaning of ROL $zz (R253). -/
def execRolZp (zp : Byte) (s : State) : Host.Outcome State Fault Refusal :=
  runInstr (.rolZp zp) progRolZp s

/-- ROL $zz,X (`$36`): T_ZPX_M (R125) with the operation of R253. -/
def progRolZpx : MicroProgram := .modify .zpx false resRol flRol

/-- The meaning of ROL $zz,X (R253). -/
def execRolZpx (zp : Byte) (s : State) : Host.Outcome State Fault Refusal :=
  runInstr (.rolZpx zp) progRolZpx s

/-- ROL $hhll (`$2E`): T_ABS_M (R128) with the operation of R253. -/
def progRolAbs : MicroProgram := .modify .abs false resRol flRol

/-- The meaning of ROL $hhll (R253). -/
def execRolAbs (lo hi : Byte) (s : State) : Host.Outcome State Fault Refusal :=
  runInstr (.rolAbs lo hi) progRolAbs s

/-- ROL $hhll,X (`$3E`): T_ABX_M (R131) with the operation of R253. -/
def progRolAbx : MicroProgram := .modify .abx false resRol flRol

/-- The meaning of ROL $hhll,X (R253). -/
def execRolAbx (lo hi : Byte) (s : State) : Host.Outcome State Fault Refusal :=
  runInstr (.rolAbx lo hi) progRolAbx s

/-- ROR A (`$6A`): T_IMP (R118) with the operation of R254. -/
def progRorAcc : MicroProgram := .imp (onAcc resRor flRor)

/-- The meaning of ROR A (R254). -/
def execRorAcc (s : State) : Host.Outcome State Fault Refusal :=
  runInstr .rorAcc progRorAcc s

/-- ROR $zz (`$66`): T_ZP_M (R122) with the operation of R254. -/
def progRorZp : MicroProgram := .modify .zp false resRor flRor

/-- The meaning of ROR $zz (R254). -/
def execRorZp (zp : Byte) (s : State) : Host.Outcome State Fault Refusal :=
  runInstr (.rorZp zp) progRorZp s

/-- ROR $zz,X (`$76`): T_ZPX_M (R125) with the operation of R254. -/
def progRorZpx : MicroProgram := .modify .zpx false resRor flRor

/-- The meaning of ROR $zz,X (R254). -/
def execRorZpx (zp : Byte) (s : State) : Host.Outcome State Fault Refusal :=
  runInstr (.rorZpx zp) progRorZpx s

/-- ROR $hhll (`$6E`): T_ABS_M (R128) with the operation of R254. -/
def progRorAbs : MicroProgram := .modify .abs false resRor flRor

/-- The meaning of ROR $hhll (R254). -/
def execRorAbs (lo hi : Byte) (s : State) : Host.Outcome State Fault Refusal :=
  runInstr (.rorAbs lo hi) progRorAbs s

/-- ROR $hhll,X (`$7E`): T_ABX_M (R131) with the operation of R254. -/
def progRorAbx : MicroProgram := .modify .abx false resRor flRor

/-- The meaning of ROR $hhll,X (R254). -/
def execRorAbx (lo hi : Byte) (s : State) : Host.Outcome State Fault Refusal :=
  runInstr (.rorAbx lo hi) progRorAbx s

/-- INC A (`$1A`): T_IMP (R118) with the operation of R255. -/
def progIncAcc : MicroProgram := .imp (onAcc resInc flInc)

/-- The meaning of INC A (R255). -/
def execIncAcc (s : State) : Host.Outcome State Fault Refusal :=
  runInstr .incAcc progIncAcc s

/-- INC $zz (`$E6`): T_ZP_M (R122) with the operation of R255. -/
def progIncZp : MicroProgram := .modify .zp false resInc flInc

/-- The meaning of INC $zz (R255). -/
def execIncZp (zp : Byte) (s : State) : Host.Outcome State Fault Refusal :=
  runInstr (.incZp zp) progIncZp s

/-- INC $zz,X (`$F6`): T_ZPX_M (R125) with the operation of R255. -/
def progIncZpx : MicroProgram := .modify .zpx false resInc flInc

/-- The meaning of INC $zz,X (R255). -/
def execIncZpx (zp : Byte) (s : State) : Host.Outcome State Fault Refusal :=
  runInstr (.incZpx zp) progIncZpx s

/-- INC $hhll (`$EE`): T_ABS_M (R128) with the operation of R255. -/
def progIncAbs : MicroProgram := .modify .abs false resInc flInc

/-- The meaning of INC $hhll (R255). -/
def execIncAbs (lo hi : Byte) (s : State) : Host.Outcome State Fault Refusal :=
  runInstr (.incAbs lo hi) progIncAbs s

/-- INC $hhll,X (`$FE`): T_ABX_M7 (R132) with the operation of R255. -/
def progIncAbx : MicroProgram := .modify .abx true resInc flInc

/-- The meaning of INC $hhll,X (R255). -/
def execIncAbx (lo hi : Byte) (s : State) : Host.Outcome State Fault Refusal :=
  runInstr (.incAbx lo hi) progIncAbx s

/-- DEC A (`$3A`): T_IMP (R118) with the operation of R256. -/
def progDecAcc : MicroProgram := .imp (onAcc resDec flDec)

/-- The meaning of DEC A (R256). -/
def execDecAcc (s : State) : Host.Outcome State Fault Refusal :=
  runInstr .decAcc progDecAcc s

/-- DEC $zz (`$C6`): T_ZP_M (R122) with the operation of R256. -/
def progDecZp : MicroProgram := .modify .zp false resDec flDec

/-- The meaning of DEC $zz (R256). -/
def execDecZp (zp : Byte) (s : State) : Host.Outcome State Fault Refusal :=
  runInstr (.decZp zp) progDecZp s

/-- DEC $zz,X (`$D6`): T_ZPX_M (R125) with the operation of R256. -/
def progDecZpx : MicroProgram := .modify .zpx false resDec flDec

/-- The meaning of DEC $zz,X (R256). -/
def execDecZpx (zp : Byte) (s : State) : Host.Outcome State Fault Refusal :=
  runInstr (.decZpx zp) progDecZpx s

/-- DEC $hhll (`$CE`): T_ABS_M (R128) with the operation of R256. -/
def progDecAbs : MicroProgram := .modify .abs false resDec flDec

/-- The meaning of DEC $hhll (R256). -/
def execDecAbs (lo hi : Byte) (s : State) : Host.Outcome State Fault Refusal :=
  runInstr (.decAbs lo hi) progDecAbs s

/-- DEC $hhll,X (`$DE`): T_ABX_M7 (R132) with the operation of R256. -/
def progDecAbx : MicroProgram := .modify .abx true resDec flDec

/-- The meaning of DEC $hhll,X (R256). -/
def execDecAbx (lo hi : Byte) (s : State) : Host.Outcome State Fault Refusal :=
  runInstr (.decAbx lo hi) progDecAbx s

/-- INX (`$E8`): T_IMP (R118) with the operation of R257. -/
def progInx : MicroProgram := .imp opInx

/-- The meaning of INX (R257). -/
def execInx (s : State) : Host.Outcome State Fault Refusal :=
  runInstr .inx progInx s

/-- INY (`$C8`): T_IMP (R118) with the operation of R258. -/
def progIny : MicroProgram := .imp opIny

/-- The meaning of INY (R258). -/
def execIny (s : State) : Host.Outcome State Fault Refusal :=
  runInstr .iny progIny s

/-- DEX (`$CA`): T_IMP (R118) with the operation of R259. -/
def progDex : MicroProgram := .imp opDex

/-- The meaning of DEX (R259). -/
def execDex (s : State) : Host.Outcome State Fault Refusal :=
  runInstr .dex progDex s

/-- DEY (`$88`): T_IMP (R118) with the operation of R260. -/
def progDey : MicroProgram := .imp opDey

/-- The meaning of DEY (R260). -/
def execDey (s : State) : Host.Outcome State Fault Refusal :=
  runInstr .dey progDey s

/-- TSB $zz (`$04`): T_ZP_M (R122) with the operation of R261. -/
def progTsbZp : MicroProgram := .modify .zp false resTsb flTsb

/-- The meaning of TSB $zz (R261). -/
def execTsbZp (zp : Byte) (s : State) : Host.Outcome State Fault Refusal :=
  runInstr (.tsbZp zp) progTsbZp s

/-- TSB $hhll (`$0C`): T_ABS_M (R128) with the operation of R261. -/
def progTsbAbs : MicroProgram := .modify .abs false resTsb flTsb

/-- The meaning of TSB $hhll (R261). -/
def execTsbAbs (lo hi : Byte) (s : State) : Host.Outcome State Fault Refusal :=
  runInstr (.tsbAbs lo hi) progTsbAbs s

/-- TRB $zz (`$14`): T_ZP_M (R122) with the operation of R262. -/
def progTrbZp : MicroProgram := .modify .zp false resTrb flTrb

/-- The meaning of TRB $zz (R262). -/
def execTrbZp (zp : Byte) (s : State) : Host.Outcome State Fault Refusal :=
  runInstr (.trbZp zp) progTrbZp s

/-- TRB $hhll (`$1C`): T_ABS_M (R128) with the operation of R262. -/
def progTrbAbs : MicroProgram := .modify .abs false resTrb flTrb

/-- The meaning of TRB $hhll (R262). -/
def execTrbAbs (lo hi : Byte) (s : State) : Host.Outcome State Fault Refusal :=
  runInstr (.trbAbs lo hi) progTrbAbs s

/-- RMB0 $zz (`$07`): T_ZP_M (R122) with the operation of R263. -/
def progRmb0 : MicroProgram := .modify .zp false (resRmb 0) flKeep

/-- The meaning of RMB0 $zz (R263). -/
def execRmb0 (zp : Byte) (s : State) : Host.Outcome State Fault Refusal :=
  runInstr (.rmb0 zp) progRmb0 s

/-- RMB1 $zz (`$17`): T_ZP_M (R122) with the operation of R263. -/
def progRmb1 : MicroProgram := .modify .zp false (resRmb 1) flKeep

/-- The meaning of RMB1 $zz (R263). -/
def execRmb1 (zp : Byte) (s : State) : Host.Outcome State Fault Refusal :=
  runInstr (.rmb1 zp) progRmb1 s

/-- RMB2 $zz (`$27`): T_ZP_M (R122) with the operation of R263. -/
def progRmb2 : MicroProgram := .modify .zp false (resRmb 2) flKeep

/-- The meaning of RMB2 $zz (R263). -/
def execRmb2 (zp : Byte) (s : State) : Host.Outcome State Fault Refusal :=
  runInstr (.rmb2 zp) progRmb2 s

/-- RMB3 $zz (`$37`): T_ZP_M (R122) with the operation of R263. -/
def progRmb3 : MicroProgram := .modify .zp false (resRmb 3) flKeep

/-- The meaning of RMB3 $zz (R263). -/
def execRmb3 (zp : Byte) (s : State) : Host.Outcome State Fault Refusal :=
  runInstr (.rmb3 zp) progRmb3 s

/-- RMB4 $zz (`$47`): T_ZP_M (R122) with the operation of R263. -/
def progRmb4 : MicroProgram := .modify .zp false (resRmb 4) flKeep

/-- The meaning of RMB4 $zz (R263). -/
def execRmb4 (zp : Byte) (s : State) : Host.Outcome State Fault Refusal :=
  runInstr (.rmb4 zp) progRmb4 s

/-- RMB5 $zz (`$57`): T_ZP_M (R122) with the operation of R263. -/
def progRmb5 : MicroProgram := .modify .zp false (resRmb 5) flKeep

/-- The meaning of RMB5 $zz (R263). -/
def execRmb5 (zp : Byte) (s : State) : Host.Outcome State Fault Refusal :=
  runInstr (.rmb5 zp) progRmb5 s

/-- RMB6 $zz (`$67`): T_ZP_M (R122) with the operation of R263. -/
def progRmb6 : MicroProgram := .modify .zp false (resRmb 6) flKeep

/-- The meaning of RMB6 $zz (R263). -/
def execRmb6 (zp : Byte) (s : State) : Host.Outcome State Fault Refusal :=
  runInstr (.rmb6 zp) progRmb6 s

/-- RMB7 $zz (`$77`): T_ZP_M (R122) with the operation of R263. -/
def progRmb7 : MicroProgram := .modify .zp false (resRmb 7) flKeep

/-- The meaning of RMB7 $zz (R263). -/
def execRmb7 (zp : Byte) (s : State) : Host.Outcome State Fault Refusal :=
  runInstr (.rmb7 zp) progRmb7 s

/-- SMB0 $zz (`$87`): T_ZP_M (R122) with the operation of R264. -/
def progSmb0 : MicroProgram := .modify .zp false (resSmb 0) flKeep

/-- The meaning of SMB0 $zz (R264). -/
def execSmb0 (zp : Byte) (s : State) : Host.Outcome State Fault Refusal :=
  runInstr (.smb0 zp) progSmb0 s

/-- SMB1 $zz (`$97`): T_ZP_M (R122) with the operation of R264. -/
def progSmb1 : MicroProgram := .modify .zp false (resSmb 1) flKeep

/-- The meaning of SMB1 $zz (R264). -/
def execSmb1 (zp : Byte) (s : State) : Host.Outcome State Fault Refusal :=
  runInstr (.smb1 zp) progSmb1 s

/-- SMB2 $zz (`$A7`): T_ZP_M (R122) with the operation of R264. -/
def progSmb2 : MicroProgram := .modify .zp false (resSmb 2) flKeep

/-- The meaning of SMB2 $zz (R264). -/
def execSmb2 (zp : Byte) (s : State) : Host.Outcome State Fault Refusal :=
  runInstr (.smb2 zp) progSmb2 s

/-- SMB3 $zz (`$B7`): T_ZP_M (R122) with the operation of R264. -/
def progSmb3 : MicroProgram := .modify .zp false (resSmb 3) flKeep

/-- The meaning of SMB3 $zz (R264). -/
def execSmb3 (zp : Byte) (s : State) : Host.Outcome State Fault Refusal :=
  runInstr (.smb3 zp) progSmb3 s

/-- SMB4 $zz (`$C7`): T_ZP_M (R122) with the operation of R264. -/
def progSmb4 : MicroProgram := .modify .zp false (resSmb 4) flKeep

/-- The meaning of SMB4 $zz (R264). -/
def execSmb4 (zp : Byte) (s : State) : Host.Outcome State Fault Refusal :=
  runInstr (.smb4 zp) progSmb4 s

/-- SMB5 $zz (`$D7`): T_ZP_M (R122) with the operation of R264. -/
def progSmb5 : MicroProgram := .modify .zp false (resSmb 5) flKeep

/-- The meaning of SMB5 $zz (R264). -/
def execSmb5 (zp : Byte) (s : State) : Host.Outcome State Fault Refusal :=
  runInstr (.smb5 zp) progSmb5 s

/-- SMB6 $zz (`$E7`): T_ZP_M (R122) with the operation of R264. -/
def progSmb6 : MicroProgram := .modify .zp false (resSmb 6) flKeep

/-- The meaning of SMB6 $zz (R264). -/
def execSmb6 (zp : Byte) (s : State) : Host.Outcome State Fault Refusal :=
  runInstr (.smb6 zp) progSmb6 s

/-- SMB7 $zz (`$F7`): T_ZP_M (R122) with the operation of R264. -/
def progSmb7 : MicroProgram := .modify .zp false (resSmb 7) flKeep

/-- The meaning of SMB7 $zz (R264). -/
def execSmb7 (zp : Byte) (s : State) : Host.Outcome State Fault Refusal :=
  runInstr (.smb7 zp) progSmb7 s

end Sys2Proof.Machine
end

