-- ==== Sys2Proof/Machine/Stack.lean ====
section
/-! DEFINITION. Stack instructions (42_stack.md): the injected operations, then for every opcode row its micro-op program and
its meaning, the run of that program. -/

namespace Sys2Proof.Machine

/-- The byte PHP pushes: `N:V:1:1:D:I:Z:C` (R204). -/
def pushedStatus (r : Regs) : Byte := packP r.p true

/-- PLP: all six flags from the pulled byte, bits 5 and 4 discarded (R208). -/
def opPlp (v : Byte) (r : Regs) : Regs := { r with p := unpackP v }

/-- PHA (`$48`): T_PUSH (R148) with the operation of R201. -/
def progPha : MicroProgram := .push Regs.a

/-- The meaning of PHA (R201). -/
def execPha (s : State) : Host.Outcome State Fault Refusal :=
  runInstr .pha progPha s

/-- PHX (`$DA`): T_PUSH (R148) with the operation of R202. -/
def progPhx : MicroProgram := .push Regs.x

/-- The meaning of PHX (R202). -/
def execPhx (s : State) : Host.Outcome State Fault Refusal :=
  runInstr .phx progPhx s

/-- PHY (`$5A`): T_PUSH (R148) with the operation of R203. -/
def progPhy : MicroProgram := .push Regs.y

/-- The meaning of PHY (R203). -/
def execPhy (s : State) : Host.Outcome State Fault Refusal :=
  runInstr .phy progPhy s

/-- PHP (`$08`): T_PUSH (R148) with the operation of R204. -/
def progPhp : MicroProgram := .push pushedStatus

/-- The meaning of PHP (R204). -/
def execPhp (s : State) : Host.Outcome State Fault Refusal :=
  runInstr .php progPhp s

/-- PLA (`$68`): T_PULL (R149) with the operation of R205. -/
def progPla : MicroProgram := .pull opLda

/-- The meaning of PLA (R205). -/
def execPla (s : State) : Host.Outcome State Fault Refusal :=
  runInstr .pla progPla s

/-- PLX (`$FA`): T_PULL (R149) with the operation of R206. -/
def progPlx : MicroProgram := .pull opLdx

/-- The meaning of PLX (R206). -/
def execPlx (s : State) : Host.Outcome State Fault Refusal :=
  runInstr .plx progPlx s

/-- PLY (`$7A`): T_PULL (R149) with the operation of R207. -/
def progPly : MicroProgram := .pull opLdy

/-- The meaning of PLY (R207). -/
def execPly (s : State) : Host.Outcome State Fault Refusal :=
  runInstr .ply progPly s

/-- PLP (`$28`): T_PULL (R149) with the operation of R208. -/
def progPlp : MicroProgram := .pull opPlp

/-- The meaning of PLP (R208). -/
def execPlp (s : State) : Host.Outcome State Fault Refusal :=
  runInstr .plp progPlp s

end Sys2Proof.Machine
end

