-- ==== Sys2Proof/Machine/System.lean ====
section
/-! DEFINITION. Flag and system instructions (46_flags_system.md): the injected operations, then for every opcode row its micro-op program and
its meaning, the run of that program. -/

namespace Sys2Proof.Machine

/-- The seven flag instructions write exactly one flag (R310). -/
def opFlag (f : FlagName) (b : Bool) (r : Regs) : Regs := { r with p := r.p.set f b }

/-- NOP: nothing (R320). -/
def opNop (r : Regs) : Regs := r

/-- CLC (`$18`): T_IMP (R118) with the operation of R311. -/
def progClc : MicroProgram := .imp (opFlag .c false)

/-- The meaning of CLC (R311). -/
def execClc (s : State) : Host.Outcome State Fault Refusal :=
  runInstr .clc progClc s

/-- SEC (`$38`): T_IMP (R118) with the operation of R312. -/
def progSec : MicroProgram := .imp (opFlag .c true)

/-- The meaning of SEC (R312). -/
def execSec (s : State) : Host.Outcome State Fault Refusal :=
  runInstr .sec progSec s

/-- CLD (`$D8`): T_IMP (R118) with the operation of R313. -/
def progCld : MicroProgram := .imp (opFlag .d false)

/-- The meaning of CLD (R313). -/
def execCld (s : State) : Host.Outcome State Fault Refusal :=
  runInstr .cld progCld s

/-- SED (`$F8`): T_IMP (R118) with the operation of R314. -/
def progSed : MicroProgram := .imp (opFlag .d true)

/-- The meaning of SED (R314). -/
def execSed (s : State) : Host.Outcome State Fault Refusal :=
  runInstr .sed progSed s

/-- CLI (`$58`): T_IMP (R118) with the operation of R315. -/
def progCli : MicroProgram := .imp (opFlag .i false)

/-- The meaning of CLI (R315). -/
def execCli (s : State) : Host.Outcome State Fault Refusal :=
  runInstr .cli progCli s

/-- SEI (`$78`): T_IMP (R118) with the operation of R316. -/
def progSei : MicroProgram := .imp (opFlag .i true)

/-- The meaning of SEI (R316). -/
def execSei (s : State) : Host.Outcome State Fault Refusal :=
  runInstr .sei progSei s

/-- CLV (`$B8`): T_IMP (R118) with the operation of R317. -/
def progClv : MicroProgram := .imp (opFlag .v false)

/-- The meaning of CLV (R317). -/
def execClv (s : State) : Host.Outcome State Fault Refusal :=
  runInstr .clv progClv s

/-- BRK (`$00`): T_BRK (R147) with the operation of R318. -/
def progBrk : MicroProgram := .brk

/-- The meaning of BRK (R318). -/
def execBrk (s : State) : Host.Outcome State Fault Refusal :=
  runInstr .brk progBrk s

/-- RTI (`$40`): T_RTI (R146) with the operation of R319. -/
def progRti : MicroProgram := .rti

/-- The meaning of RTI (R319). -/
def execRti (s : State) : Host.Outcome State Fault Refusal :=
  runInstr .rti progRti s

/-- NOP (`$EA`): T_IMP (R118) with the operation of R320. -/
def progNop : MicroProgram := .imp opNop

/-- The meaning of NOP (R320). -/
def execNop (s : State) : Host.Outcome State Fault Refusal :=
  runInstr .nop progNop s

/-- WAI (`$CB`): T_HALT (R150) with the operation of R321. -/
def progWai : MicroProgram := .halt .waiting

/-- The meaning of WAI (R321). -/
def execWai (s : State) : Host.Outcome State Fault Refusal :=
  runInstr .wai progWai s

/-- STP (`$DB`): T_HALT (R150) with the operation of R322. -/
def progStp : MicroProgram := .halt .stopped

/-- The meaning of STP (R322). -/
def execStp (s : State) : Host.Outcome State Fault Refusal :=
  runInstr .stp progStp s

end Sys2Proof.Machine
end

