-- ==== Sys2Proof/Machine/Dispatch.lean ====
section
/-! DEFINITION. `exec`: one arm for each constructor of Instr, each one direct call of that instruction's meaning. -/

namespace Sys2Proof.Machine

def exec (i : Instr) (s : State) : Host.Outcome State Fault Refusal :=
  match i with
  -- Loads, stores and transfers (41_load_store_transfer.md)
  | .ldaImm n => Sys2Proof.Machine.execLdaImm n s
  | .ldaZp zp => Sys2Proof.Machine.execLdaZp zp s
  | .ldaZpx zp => Sys2Proof.Machine.execLdaZpx zp s
  | .ldaAbs lo hi => Sys2Proof.Machine.execLdaAbs lo hi s
  | .ldaAbx lo hi => Sys2Proof.Machine.execLdaAbx lo hi s
  | .ldaAby lo hi => Sys2Proof.Machine.execLdaAby lo hi s
  | .ldaIzx zp => Sys2Proof.Machine.execLdaIzx zp s
  | .ldaIzy zp => Sys2Proof.Machine.execLdaIzy zp s
  | .ldaIzp zp => Sys2Proof.Machine.execLdaIzp zp s
  | .ldxImm n => Sys2Proof.Machine.execLdxImm n s
  | .ldxZp zp => Sys2Proof.Machine.execLdxZp zp s
  | .ldxZpy zp => Sys2Proof.Machine.execLdxZpy zp s
  | .ldxAbs lo hi => Sys2Proof.Machine.execLdxAbs lo hi s
  | .ldxAby lo hi => Sys2Proof.Machine.execLdxAby lo hi s
  | .ldyImm n => Sys2Proof.Machine.execLdyImm n s
  | .ldyZp zp => Sys2Proof.Machine.execLdyZp zp s
  | .ldyZpx zp => Sys2Proof.Machine.execLdyZpx zp s
  | .ldyAbs lo hi => Sys2Proof.Machine.execLdyAbs lo hi s
  | .ldyAbx lo hi => Sys2Proof.Machine.execLdyAbx lo hi s
  | .staZp zp => Sys2Proof.Machine.execStaZp zp s
  | .staZpx zp => Sys2Proof.Machine.execStaZpx zp s
  | .staAbs lo hi => Sys2Proof.Machine.execStaAbs lo hi s
  | .staAbx lo hi => Sys2Proof.Machine.execStaAbx lo hi s
  | .staAby lo hi => Sys2Proof.Machine.execStaAby lo hi s
  | .staIzx zp => Sys2Proof.Machine.execStaIzx zp s
  | .staIzy zp => Sys2Proof.Machine.execStaIzy zp s
  | .staIzp zp => Sys2Proof.Machine.execStaIzp zp s
  | .stxZp zp => Sys2Proof.Machine.execStxZp zp s
  | .stxZpy zp => Sys2Proof.Machine.execStxZpy zp s
  | .stxAbs lo hi => Sys2Proof.Machine.execStxAbs lo hi s
  | .styZp zp => Sys2Proof.Machine.execStyZp zp s
  | .styZpx zp => Sys2Proof.Machine.execStyZpx zp s
  | .styAbs lo hi => Sys2Proof.Machine.execStyAbs lo hi s
  | .stzZp zp => Sys2Proof.Machine.execStzZp zp s
  | .stzZpx zp => Sys2Proof.Machine.execStzZpx zp s
  | .stzAbs lo hi => Sys2Proof.Machine.execStzAbs lo hi s
  | .stzAbx lo hi => Sys2Proof.Machine.execStzAbx lo hi s
  | .tax => Sys2Proof.Machine.execTax s
  | .tay => Sys2Proof.Machine.execTay s
  | .txa => Sys2Proof.Machine.execTxa s
  | .tya => Sys2Proof.Machine.execTya s
  | .tsx => Sys2Proof.Machine.execTsx s
  | .txs => Sys2Proof.Machine.execTxs s
  -- Stack instructions (42_stack.md)
  | .pha => Sys2Proof.Machine.execPha s
  | .phx => Sys2Proof.Machine.execPhx s
  | .phy => Sys2Proof.Machine.execPhy s
  | .php => Sys2Proof.Machine.execPhp s
  | .pla => Sys2Proof.Machine.execPla s
  | .plx => Sys2Proof.Machine.execPlx s
  | .ply => Sys2Proof.Machine.execPly s
  | .plp => Sys2Proof.Machine.execPlp s
  -- Arithmetic, logic, compare and bit test (43_alu.md)
  | .adcImm n => Sys2Proof.Machine.execAdcImm n s
  | .adcZp zp => Sys2Proof.Machine.execAdcZp zp s
  | .adcZpx zp => Sys2Proof.Machine.execAdcZpx zp s
  | .adcAbs lo hi => Sys2Proof.Machine.execAdcAbs lo hi s
  | .adcAbx lo hi => Sys2Proof.Machine.execAdcAbx lo hi s
  | .adcAby lo hi => Sys2Proof.Machine.execAdcAby lo hi s
  | .adcIzx zp => Sys2Proof.Machine.execAdcIzx zp s
  | .adcIzy zp => Sys2Proof.Machine.execAdcIzy zp s
  | .adcIzp zp => Sys2Proof.Machine.execAdcIzp zp s
  | .sbcImm n => Sys2Proof.Machine.execSbcImm n s
  | .sbcZp zp => Sys2Proof.Machine.execSbcZp zp s
  | .sbcZpx zp => Sys2Proof.Machine.execSbcZpx zp s
  | .sbcAbs lo hi => Sys2Proof.Machine.execSbcAbs lo hi s
  | .sbcAbx lo hi => Sys2Proof.Machine.execSbcAbx lo hi s
  | .sbcAby lo hi => Sys2Proof.Machine.execSbcAby lo hi s
  | .sbcIzx zp => Sys2Proof.Machine.execSbcIzx zp s
  | .sbcIzy zp => Sys2Proof.Machine.execSbcIzy zp s
  | .sbcIzp zp => Sys2Proof.Machine.execSbcIzp zp s
  | .andImm n => Sys2Proof.Machine.execAndImm n s
  | .andZp zp => Sys2Proof.Machine.execAndZp zp s
  | .andZpx zp => Sys2Proof.Machine.execAndZpx zp s
  | .andAbs lo hi => Sys2Proof.Machine.execAndAbs lo hi s
  | .andAbx lo hi => Sys2Proof.Machine.execAndAbx lo hi s
  | .andAby lo hi => Sys2Proof.Machine.execAndAby lo hi s
  | .andIzx zp => Sys2Proof.Machine.execAndIzx zp s
  | .andIzy zp => Sys2Proof.Machine.execAndIzy zp s
  | .andIzp zp => Sys2Proof.Machine.execAndIzp zp s
  | .oraImm n => Sys2Proof.Machine.execOraImm n s
  | .oraZp zp => Sys2Proof.Machine.execOraZp zp s
  | .oraZpx zp => Sys2Proof.Machine.execOraZpx zp s
  | .oraAbs lo hi => Sys2Proof.Machine.execOraAbs lo hi s
  | .oraAbx lo hi => Sys2Proof.Machine.execOraAbx lo hi s
  | .oraAby lo hi => Sys2Proof.Machine.execOraAby lo hi s
  | .oraIzx zp => Sys2Proof.Machine.execOraIzx zp s
  | .oraIzy zp => Sys2Proof.Machine.execOraIzy zp s
  | .oraIzp zp => Sys2Proof.Machine.execOraIzp zp s
  | .eorImm n => Sys2Proof.Machine.execEorImm n s
  | .eorZp zp => Sys2Proof.Machine.execEorZp zp s
  | .eorZpx zp => Sys2Proof.Machine.execEorZpx zp s
  | .eorAbs lo hi => Sys2Proof.Machine.execEorAbs lo hi s
  | .eorAbx lo hi => Sys2Proof.Machine.execEorAbx lo hi s
  | .eorAby lo hi => Sys2Proof.Machine.execEorAby lo hi s
  | .eorIzx zp => Sys2Proof.Machine.execEorIzx zp s
  | .eorIzy zp => Sys2Proof.Machine.execEorIzy zp s
  | .eorIzp zp => Sys2Proof.Machine.execEorIzp zp s
  | .cmpImm n => Sys2Proof.Machine.execCmpImm n s
  | .cmpZp zp => Sys2Proof.Machine.execCmpZp zp s
  | .cmpZpx zp => Sys2Proof.Machine.execCmpZpx zp s
  | .cmpAbs lo hi => Sys2Proof.Machine.execCmpAbs lo hi s
  | .cmpAbx lo hi => Sys2Proof.Machine.execCmpAbx lo hi s
  | .cmpAby lo hi => Sys2Proof.Machine.execCmpAby lo hi s
  | .cmpIzx zp => Sys2Proof.Machine.execCmpIzx zp s
  | .cmpIzy zp => Sys2Proof.Machine.execCmpIzy zp s
  | .cmpIzp zp => Sys2Proof.Machine.execCmpIzp zp s
  | .cpxImm n => Sys2Proof.Machine.execCpxImm n s
  | .cpxZp zp => Sys2Proof.Machine.execCpxZp zp s
  | .cpxAbs lo hi => Sys2Proof.Machine.execCpxAbs lo hi s
  | .cpyImm n => Sys2Proof.Machine.execCpyImm n s
  | .cpyZp zp => Sys2Proof.Machine.execCpyZp zp s
  | .cpyAbs lo hi => Sys2Proof.Machine.execCpyAbs lo hi s
  | .bitImm n => Sys2Proof.Machine.execBitImm n s
  | .bitZp zp => Sys2Proof.Machine.execBitZp zp s
  | .bitZpx zp => Sys2Proof.Machine.execBitZpx zp s
  | .bitAbs lo hi => Sys2Proof.Machine.execBitAbs lo hi s
  | .bitAbx lo hi => Sys2Proof.Machine.execBitAbx lo hi s
  -- Shifts, rotates, increments, decrements and memory bit operations (44_rmw.md)
  | .aslAcc => Sys2Proof.Machine.execAslAcc s
  | .aslZp zp => Sys2Proof.Machine.execAslZp zp s
  | .aslZpx zp => Sys2Proof.Machine.execAslZpx zp s
  | .aslAbs lo hi => Sys2Proof.Machine.execAslAbs lo hi s
  | .aslAbx lo hi => Sys2Proof.Machine.execAslAbx lo hi s
  | .lsrAcc => Sys2Proof.Machine.execLsrAcc s
  | .lsrZp zp => Sys2Proof.Machine.execLsrZp zp s
  | .lsrZpx zp => Sys2Proof.Machine.execLsrZpx zp s
  | .lsrAbs lo hi => Sys2Proof.Machine.execLsrAbs lo hi s
  | .lsrAbx lo hi => Sys2Proof.Machine.execLsrAbx lo hi s
  | .rolAcc => Sys2Proof.Machine.execRolAcc s
  | .rolZp zp => Sys2Proof.Machine.execRolZp zp s
  | .rolZpx zp => Sys2Proof.Machine.execRolZpx zp s
  | .rolAbs lo hi => Sys2Proof.Machine.execRolAbs lo hi s
  | .rolAbx lo hi => Sys2Proof.Machine.execRolAbx lo hi s
  | .rorAcc => Sys2Proof.Machine.execRorAcc s
  | .rorZp zp => Sys2Proof.Machine.execRorZp zp s
  | .rorZpx zp => Sys2Proof.Machine.execRorZpx zp s
  | .rorAbs lo hi => Sys2Proof.Machine.execRorAbs lo hi s
  | .rorAbx lo hi => Sys2Proof.Machine.execRorAbx lo hi s
  | .incAcc => Sys2Proof.Machine.execIncAcc s
  | .incZp zp => Sys2Proof.Machine.execIncZp zp s
  | .incZpx zp => Sys2Proof.Machine.execIncZpx zp s
  | .incAbs lo hi => Sys2Proof.Machine.execIncAbs lo hi s
  | .incAbx lo hi => Sys2Proof.Machine.execIncAbx lo hi s
  | .decAcc => Sys2Proof.Machine.execDecAcc s
  | .decZp zp => Sys2Proof.Machine.execDecZp zp s
  | .decZpx zp => Sys2Proof.Machine.execDecZpx zp s
  | .decAbs lo hi => Sys2Proof.Machine.execDecAbs lo hi s
  | .decAbx lo hi => Sys2Proof.Machine.execDecAbx lo hi s
  | .inx => Sys2Proof.Machine.execInx s
  | .iny => Sys2Proof.Machine.execIny s
  | .dex => Sys2Proof.Machine.execDex s
  | .dey => Sys2Proof.Machine.execDey s
  | .tsbZp zp => Sys2Proof.Machine.execTsbZp zp s
  | .tsbAbs lo hi => Sys2Proof.Machine.execTsbAbs lo hi s
  | .trbZp zp => Sys2Proof.Machine.execTrbZp zp s
  | .trbAbs lo hi => Sys2Proof.Machine.execTrbAbs lo hi s
  | .rmb0 zp => Sys2Proof.Machine.execRmb0 zp s
  | .rmb1 zp => Sys2Proof.Machine.execRmb1 zp s
  | .rmb2 zp => Sys2Proof.Machine.execRmb2 zp s
  | .rmb3 zp => Sys2Proof.Machine.execRmb3 zp s
  | .rmb4 zp => Sys2Proof.Machine.execRmb4 zp s
  | .rmb5 zp => Sys2Proof.Machine.execRmb5 zp s
  | .rmb6 zp => Sys2Proof.Machine.execRmb6 zp s
  | .rmb7 zp => Sys2Proof.Machine.execRmb7 zp s
  | .smb0 zp => Sys2Proof.Machine.execSmb0 zp s
  | .smb1 zp => Sys2Proof.Machine.execSmb1 zp s
  | .smb2 zp => Sys2Proof.Machine.execSmb2 zp s
  | .smb3 zp => Sys2Proof.Machine.execSmb3 zp s
  | .smb4 zp => Sys2Proof.Machine.execSmb4 zp s
  | .smb5 zp => Sys2Proof.Machine.execSmb5 zp s
  | .smb6 zp => Sys2Proof.Machine.execSmb6 zp s
  | .smb7 zp => Sys2Proof.Machine.execSmb7 zp s
  -- Branches, jumps and subroutines (45_branch_jump.md)
  | .bcc off => Sys2Proof.Machine.execBcc off s
  | .bcs off => Sys2Proof.Machine.execBcs off s
  | .beq off => Sys2Proof.Machine.execBeq off s
  | .bne off => Sys2Proof.Machine.execBne off s
  | .bmi off => Sys2Proof.Machine.execBmi off s
  | .bpl off => Sys2Proof.Machine.execBpl off s
  | .bvc off => Sys2Proof.Machine.execBvc off s
  | .bvs off => Sys2Proof.Machine.execBvs off s
  | .bra off => Sys2Proof.Machine.execBra off s
  | .bbr0 zp off => Sys2Proof.Machine.execBbr0 zp off s
  | .bbr1 zp off => Sys2Proof.Machine.execBbr1 zp off s
  | .bbr2 zp off => Sys2Proof.Machine.execBbr2 zp off s
  | .bbr3 zp off => Sys2Proof.Machine.execBbr3 zp off s
  | .bbr4 zp off => Sys2Proof.Machine.execBbr4 zp off s
  | .bbr5 zp off => Sys2Proof.Machine.execBbr5 zp off s
  | .bbr6 zp off => Sys2Proof.Machine.execBbr6 zp off s
  | .bbr7 zp off => Sys2Proof.Machine.execBbr7 zp off s
  | .bbs0 zp off => Sys2Proof.Machine.execBbs0 zp off s
  | .bbs1 zp off => Sys2Proof.Machine.execBbs1 zp off s
  | .bbs2 zp off => Sys2Proof.Machine.execBbs2 zp off s
  | .bbs3 zp off => Sys2Proof.Machine.execBbs3 zp off s
  | .bbs4 zp off => Sys2Proof.Machine.execBbs4 zp off s
  | .bbs5 zp off => Sys2Proof.Machine.execBbs5 zp off s
  | .bbs6 zp off => Sys2Proof.Machine.execBbs6 zp off s
  | .bbs7 zp off => Sys2Proof.Machine.execBbs7 zp off s
  | .jmpAbs lo hi => Sys2Proof.Machine.execJmpAbs lo hi s
  | .jmpInd lo hi => Sys2Proof.Machine.execJmpInd lo hi s
  | .jmpIax lo hi => Sys2Proof.Machine.execJmpIax lo hi s
  | .jsr lo hi => Sys2Proof.Machine.execJsr lo hi s
  | .rts => Sys2Proof.Machine.execRts s
  -- Flag and system instructions (46_flags_system.md)
  | .clc => Sys2Proof.Machine.execClc s
  | .sec => Sys2Proof.Machine.execSec s
  | .cld => Sys2Proof.Machine.execCld s
  | .sed => Sys2Proof.Machine.execSed s
  | .cli => Sys2Proof.Machine.execCli s
  | .sei => Sys2Proof.Machine.execSei s
  | .clv => Sys2Proof.Machine.execClv s
  | .brk => Sys2Proof.Machine.execBrk s
  | .rti => Sys2Proof.Machine.execRti s
  | .nop => Sys2Proof.Machine.execNop s
  | .wai => Sys2Proof.Machine.execWai s
  | .stp => Sys2Proof.Machine.execStp s

end Sys2Proof.Machine
end

