-- ==== Sys2Proof/Machine/Programs.lean ====
section
/-! DEFINITION. The decode table's micro-op programs: the program of every instruction (30_encoding.md R85), the same
one its meaning runs. The tick finds the program of the opcode in IR here. -/

namespace Sys2Proof.Machine

/-- The micro-op program of an instruction; it does not depend on the operand bytes. -/
def program : Instr → MicroProgram
  | .ldaImm _ => progLdaImm
  | .ldaZp _ => progLdaZp
  | .ldaZpx _ => progLdaZpx
  | .ldaAbs _ _ => progLdaAbs
  | .ldaAbx _ _ => progLdaAbx
  | .ldaAby _ _ => progLdaAby
  | .ldaIzx _ => progLdaIzx
  | .ldaIzy _ => progLdaIzy
  | .ldaIzp _ => progLdaIzp
  | .ldxImm _ => progLdxImm
  | .ldxZp _ => progLdxZp
  | .ldxZpy _ => progLdxZpy
  | .ldxAbs _ _ => progLdxAbs
  | .ldxAby _ _ => progLdxAby
  | .ldyImm _ => progLdyImm
  | .ldyZp _ => progLdyZp
  | .ldyZpx _ => progLdyZpx
  | .ldyAbs _ _ => progLdyAbs
  | .ldyAbx _ _ => progLdyAbx
  | .staZp _ => progStaZp
  | .staZpx _ => progStaZpx
  | .staAbs _ _ => progStaAbs
  | .staAbx _ _ => progStaAbx
  | .staAby _ _ => progStaAby
  | .staIzx _ => progStaIzx
  | .staIzy _ => progStaIzy
  | .staIzp _ => progStaIzp
  | .stxZp _ => progStxZp
  | .stxZpy _ => progStxZpy
  | .stxAbs _ _ => progStxAbs
  | .styZp _ => progStyZp
  | .styZpx _ => progStyZpx
  | .styAbs _ _ => progStyAbs
  | .stzZp _ => progStzZp
  | .stzZpx _ => progStzZpx
  | .stzAbs _ _ => progStzAbs
  | .stzAbx _ _ => progStzAbx
  | .tax => progTax
  | .tay => progTay
  | .txa => progTxa
  | .tya => progTya
  | .tsx => progTsx
  | .txs => progTxs
  | .pha => progPha
  | .phx => progPhx
  | .phy => progPhy
  | .php => progPhp
  | .pla => progPla
  | .plx => progPlx
  | .ply => progPly
  | .plp => progPlp
  | .adcImm _ => progAdcImm
  | .adcZp _ => progAdcZp
  | .adcZpx _ => progAdcZpx
  | .adcAbs _ _ => progAdcAbs
  | .adcAbx _ _ => progAdcAbx
  | .adcAby _ _ => progAdcAby
  | .adcIzx _ => progAdcIzx
  | .adcIzy _ => progAdcIzy
  | .adcIzp _ => progAdcIzp
  | .sbcImm _ => progSbcImm
  | .sbcZp _ => progSbcZp
  | .sbcZpx _ => progSbcZpx
  | .sbcAbs _ _ => progSbcAbs
  | .sbcAbx _ _ => progSbcAbx
  | .sbcAby _ _ => progSbcAby
  | .sbcIzx _ => progSbcIzx
  | .sbcIzy _ => progSbcIzy
  | .sbcIzp _ => progSbcIzp
  | .andImm _ => progAndImm
  | .andZp _ => progAndZp
  | .andZpx _ => progAndZpx
  | .andAbs _ _ => progAndAbs
  | .andAbx _ _ => progAndAbx
  | .andAby _ _ => progAndAby
  | .andIzx _ => progAndIzx
  | .andIzy _ => progAndIzy
  | .andIzp _ => progAndIzp
  | .oraImm _ => progOraImm
  | .oraZp _ => progOraZp
  | .oraZpx _ => progOraZpx
  | .oraAbs _ _ => progOraAbs
  | .oraAbx _ _ => progOraAbx
  | .oraAby _ _ => progOraAby
  | .oraIzx _ => progOraIzx
  | .oraIzy _ => progOraIzy
  | .oraIzp _ => progOraIzp
  | .eorImm _ => progEorImm
  | .eorZp _ => progEorZp
  | .eorZpx _ => progEorZpx
  | .eorAbs _ _ => progEorAbs
  | .eorAbx _ _ => progEorAbx
  | .eorAby _ _ => progEorAby
  | .eorIzx _ => progEorIzx
  | .eorIzy _ => progEorIzy
  | .eorIzp _ => progEorIzp
  | .cmpImm _ => progCmpImm
  | .cmpZp _ => progCmpZp
  | .cmpZpx _ => progCmpZpx
  | .cmpAbs _ _ => progCmpAbs
  | .cmpAbx _ _ => progCmpAbx
  | .cmpAby _ _ => progCmpAby
  | .cmpIzx _ => progCmpIzx
  | .cmpIzy _ => progCmpIzy
  | .cmpIzp _ => progCmpIzp
  | .cpxImm _ => progCpxImm
  | .cpxZp _ => progCpxZp
  | .cpxAbs _ _ => progCpxAbs
  | .cpyImm _ => progCpyImm
  | .cpyZp _ => progCpyZp
  | .cpyAbs _ _ => progCpyAbs
  | .bitImm _ => progBitImm
  | .bitZp _ => progBitZp
  | .bitZpx _ => progBitZpx
  | .bitAbs _ _ => progBitAbs
  | .bitAbx _ _ => progBitAbx
  | .aslAcc => progAslAcc
  | .aslZp _ => progAslZp
  | .aslZpx _ => progAslZpx
  | .aslAbs _ _ => progAslAbs
  | .aslAbx _ _ => progAslAbx
  | .lsrAcc => progLsrAcc
  | .lsrZp _ => progLsrZp
  | .lsrZpx _ => progLsrZpx
  | .lsrAbs _ _ => progLsrAbs
  | .lsrAbx _ _ => progLsrAbx
  | .rolAcc => progRolAcc
  | .rolZp _ => progRolZp
  | .rolZpx _ => progRolZpx
  | .rolAbs _ _ => progRolAbs
  | .rolAbx _ _ => progRolAbx
  | .rorAcc => progRorAcc
  | .rorZp _ => progRorZp
  | .rorZpx _ => progRorZpx
  | .rorAbs _ _ => progRorAbs
  | .rorAbx _ _ => progRorAbx
  | .incAcc => progIncAcc
  | .incZp _ => progIncZp
  | .incZpx _ => progIncZpx
  | .incAbs _ _ => progIncAbs
  | .incAbx _ _ => progIncAbx
  | .decAcc => progDecAcc
  | .decZp _ => progDecZp
  | .decZpx _ => progDecZpx
  | .decAbs _ _ => progDecAbs
  | .decAbx _ _ => progDecAbx
  | .inx => progInx
  | .iny => progIny
  | .dex => progDex
  | .dey => progDey
  | .tsbZp _ => progTsbZp
  | .tsbAbs _ _ => progTsbAbs
  | .trbZp _ => progTrbZp
  | .trbAbs _ _ => progTrbAbs
  | .rmb0 _ => progRmb0
  | .rmb1 _ => progRmb1
  | .rmb2 _ => progRmb2
  | .rmb3 _ => progRmb3
  | .rmb4 _ => progRmb4
  | .rmb5 _ => progRmb5
  | .rmb6 _ => progRmb6
  | .rmb7 _ => progRmb7
  | .smb0 _ => progSmb0
  | .smb1 _ => progSmb1
  | .smb2 _ => progSmb2
  | .smb3 _ => progSmb3
  | .smb4 _ => progSmb4
  | .smb5 _ => progSmb5
  | .smb6 _ => progSmb6
  | .smb7 _ => progSmb7
  | .bcc _ => progBcc
  | .bcs _ => progBcs
  | .beq _ => progBeq
  | .bne _ => progBne
  | .bmi _ => progBmi
  | .bpl _ => progBpl
  | .bvc _ => progBvc
  | .bvs _ => progBvs
  | .bra _ => progBra
  | .bbr0 _ _ => progBbr0
  | .bbr1 _ _ => progBbr1
  | .bbr2 _ _ => progBbr2
  | .bbr3 _ _ => progBbr3
  | .bbr4 _ _ => progBbr4
  | .bbr5 _ _ => progBbr5
  | .bbr6 _ _ => progBbr6
  | .bbr7 _ _ => progBbr7
  | .bbs0 _ _ => progBbs0
  | .bbs1 _ _ => progBbs1
  | .bbs2 _ _ => progBbs2
  | .bbs3 _ _ => progBbs3
  | .bbs4 _ _ => progBbs4
  | .bbs5 _ _ => progBbs5
  | .bbs6 _ _ => progBbs6
  | .bbs7 _ _ => progBbs7
  | .jmpAbs _ _ => progJmpAbs
  | .jmpInd _ _ => progJmpInd
  | .jmpIax _ _ => progJmpIax
  | .jsr _ _ => progJsr
  | .rts => progRts
  | .clc => progClc
  | .sec => progSec
  | .cld => progCld
  | .sed => progSed
  | .cli => progCli
  | .sei => progSei
  | .clv => progClv
  | .brk => progBrk
  | .rti => progRti
  | .nop => progNop
  | .wai => progWai
  | .stp => progStp

/-- The micro-op program of an opcode byte under CAPS, `none` for the placeholder (30_encoding.md R85, R90). -/
def programOf (caps : Caps) (op : Byte) : Option MicroProgram :=
  match lookupOpcode caps op with
  | .ok f => some (program (f.build 0x00#8 0x00#8))
  | .error _ => none

end Sys2Proof.Machine
end

