-- ==== Sys2Proof/Machine/Boundary.lean ====
section
/-! DEFINITION. The tick (40_addressing_and_bus_cycles.md R110) and the instruction-level step (00_scope.md R7): what
happens at an instruction boundary, recognition of interrupts, fetch and decode, waiting and stopped, and placing an
instruction where the next fetch reads it. -/

namespace Sys2Proof.Machine

/-- Recognition at a boundary, after the inputs are latched: NMI first, then IRQ when `P.I = 0`
(60_exceptions.md R346, R348; log 21). -/
def recognise (s : State) : Option IntKind :=
  if s.nmiPending then some .nmi
  else if s.irqLine && !s.r.p.i then some .irq
  else none

/-- The wake condition of `Waiting`; it ignores I (60_exceptions.md R360). -/
def woken (s : State) : Bool := s.nmiPending || s.irqLine

/-- The bytes of the instruction stream at PC, up to the longest instruction. Only reads, which change nothing
(20_memory.md R57, R68; log 13). -/
def streamBytes (s : State) : List Byte :=
  [s.memRead s.pc, s.memRead (s.pc + 1#16), s.memRead (s.pc + 2#16)]

/-- Fetch, decode and run the instruction at PC, or raise DecodeError (40_addressing_and_bus_cycles.md R111). -/
def fetchExecute (s : State) : Host.Outcome State Fault Refusal :=
  match decode s.cfg.caps (streamBytes s) with
  | .ok i _ => exec i s
  | .rejected _ => .next (s.decodeErrorCycle (s.memRead s.pc))

/-- A boundary with the inputs latched: a whole interrupt sequence or a whole instruction (60_exceptions.md R346). -/
def boundaryStep (s : State) : Host.Outcome State Fault Refusal :=
  match recognise s with
  | some k => .next (runInterrupt k s)
  | none => fetchExecute s

/-- The program a mid-instruction state is running (10_state.md R32: `seq`, `IR`). -/
def runningProgram (s : State) : Option MicroProgram :=
  match s.seq with
  | .int k => some (.interrupt k)
  | .instr => programOf s.cfg.caps s.lat.ir

/-- From a state inside an instruction or an interrupt sequence: its remaining cycles. -/
def resume (s : State) : Host.Outcome State Fault Refusal :=
  match runningProgram s with
  | some p => .next (runCycles cycleBound p memoryStream s)
  | none => .fault (.noMicroProgram s.lat.ir)

/-- The instruction-level step: to the next instruction boundary, in the order of 60_exceptions.md R348. An idle cycle
of `Waiting` or `Stopped` is a step of its own (R360, R361). -/
def advance (s : State) : Host.Outcome State Fault Refusal :=
  match s.run with
  | .faulted op addr => .fault (.decodeError op addr)
  | .stopped => .next s.latchInputs.idleCycle
  | .waiting =>
    if woken s.latchInputs then boundaryStep (s.latchInputs.withRun .running) else .next s.latchInputs.idleCycle
  | .running => if s.t = 1 then boundaryStep s.latchInputs else resume s

/-- The boundary tick, inputs latched: cycle 1 of an interrupt sequence, or the fetch cycle
(40_addressing_and_bus_cycles.md R110 step 4, R111). -/
def boundaryTick (s : State) : State :=
  match recognise s with
  | some k => s.interruptStart k
  | none =>
    match lookupOpcode s.cfg.caps (s.memRead s.pc) with
    | .ok _ => s.fetchCycle (s.memRead s.pc)
    | .error _ => s.decodeErrorCycle (s.memRead s.pc)

/-- The tick: exactly one clock cycle and one BusCycle (40_addressing_and_bus_cycles.md R110). -/
def tick (s : State) : Host.Outcome State Fault Refusal :=
  match s.run with
  | .faulted op addr => .fault (.decodeError op addr)
  | .stopped => .next s.latchInputs.idleCycle
  | .waiting =>
    if woken s.latchInputs then .next (boundaryTick (s.latchInputs.withRun .running))
    else .next s.latchInputs.idleCycle
  | .running =>
    if s.t = 1 then .next (boundaryTick s.latchInputs)
    else
      match runningProgram s with
      | some p => .next (nextCycle p memoryStream s)
      | none => .fault (.noMicroProgram s.lat.ir)

/-- Ticks up to the next instruction boundary, at least one. -/
def ticksToBoundary (fuel : Nat) (s : State) : Host.Outcome State Fault Refusal :=
  match tick s with
  | .next t =>
    match fuel with
    | 0 => .next t
    | k + 1 => if t.run = .running ∧ t.t ≠ 1 then ticksToBoundary k t else .next t
  | .fault f => .fault f
  | .refused f => .refused f

/-- The bytes of an instruction put into the backing array where the next fetch reads them, past the write policy as
the loading of an image is (20_memory.md R53; log 14). -/
def placeBytes (c : MemCfg) (m : Memory) (a : Word) (bs : List Byte) : Memory :=
  match bs with
  | [] => m
  | b :: bs' => placeBytes c (m.write (mirrorAddr c a).toNat b) (a + 1#16) bs'

end Sys2Proof.Machine
end

