-- ==== Sys2Proof/Machine/Step.lean ====
section
/-! DEFINITION. The step of the machine, and the placing of an instruction where it fetches its next one. -/

namespace Sys2Proof.Machine

/-- One step: to the next instruction boundary (00_scope.md R7; log 1). -/
def step (s : State) : Host.Outcome State Fault Refusal := advance s

/-- `s` with the instruction of a table word stored at PC, where `step` fetches (log 14). -/
def State.withFetchWord (s : State) (nbits w : Nat) : State :=
  s.withMem (placeBytes s.cfg.memcfg s.mem s.pc (tableBytes nbits w))

end Sys2Proof.Machine
end

