-- ==== Sys2Proof/Safety.lean ====
section
/-! DEFINITION. The terms of the claims: what an answer of `exec` or `step` leaves behind, the spec's cycle templates,
cycle counts and bus traces as tables of their own, and the invariants. Nothing of the machine depends on this file. -/

namespace Sys2Proof

/-! ## The spec's template table (spec/opcode_table.json, key `template`) -/

/-- The names of the cycle templates of 40_addressing_and_bus_cycles.md. -/
inductive Template where
  /-- T_IMP (R118) -/
  | imp
  /-- T_IMM (R119) -/
  | imm
  /-- T_ZP_R (R120) -/
  | zpR
  /-- T_ZP_W (R121) -/
  | zpW
  /-- T_ZP_M (R122) -/
  | zpM
  /-- T_ZPI_R (R123) -/
  | zpiR
  /-- T_ZPI_W (R124) -/
  | zpiW
  /-- T_ZPX_M (R125) -/
  | zpxM
  /-- T_ABS_R (R126) -/
  | absR
  /-- T_ABS_W (R127) -/
  | absW
  /-- T_ABS_M (R128) -/
  | absM
  /-- T_ABI_R (R129) -/
  | abiR
  /-- T_ABI_W (R130) -/
  | abiW
  /-- T_ABX_M (R131) -/
  | abxM
  /-- T_ABX_M7 (R132) -/
  | abxM7
  /-- T_IZX_R (R133) -/
  | izxR
  /-- T_IZX_W (R134) -/
  | izxW
  /-- T_IZY_R (R135) -/
  | izyR
  /-- T_IZY_W (R136) -/
  | izyW
  /-- T_IZP_R (R137) -/
  | izpR
  /-- T_IZP_W (R138) -/
  | izpW
  /-- T_REL (R139) -/
  | rel
  /-- T_ZPREL (R140) -/
  | zprel
  /-- T_JMP_ABS (R141) -/
  | jmpAbs
  /-- T_JMP_IND (R142) -/
  | jmpInd
  /-- T_JMP_IAX (R143) -/
  | jmpIax
  /-- T_JSR (R144) -/
  | jsr
  /-- T_RTS (R145) -/
  | rts
  /-- T_RTI (R146) -/
  | rti
  /-- T_BRK (R147) -/
  | brk
  /-- T_PUSH (R148) -/
  | push
  /-- T_PULL (R149) -/
  | pull
  /-- T_HALT (R150) -/
  | halt
  deriving DecidableEq, Repr

/-- The template of every opcode row. -/
def Instr.template : Instr → Template
  | .ldaImm _ => .imm
  | .ldaZp _ => .zpR
  | .ldaZpx _ => .zpiR
  | .ldaAbs _ _ => .absR
  | .ldaAbx _ _ => .abiR
  | .ldaAby _ _ => .abiR
  | .ldaIzx _ => .izxR
  | .ldaIzy _ => .izyR
  | .ldaIzp _ => .izpR
  | .ldxImm _ => .imm
  | .ldxZp _ => .zpR
  | .ldxZpy _ => .zpiR
  | .ldxAbs _ _ => .absR
  | .ldxAby _ _ => .abiR
  | .ldyImm _ => .imm
  | .ldyZp _ => .zpR
  | .ldyZpx _ => .zpiR
  | .ldyAbs _ _ => .absR
  | .ldyAbx _ _ => .abiR
  | .staZp _ => .zpW
  | .staZpx _ => .zpiW
  | .staAbs _ _ => .absW
  | .staAbx _ _ => .abiW
  | .staAby _ _ => .abiW
  | .staIzx _ => .izxW
  | .staIzy _ => .izyW
  | .staIzp _ => .izpW
  | .stxZp _ => .zpW
  | .stxZpy _ => .zpiW
  | .stxAbs _ _ => .absW
  | .styZp _ => .zpW
  | .styZpx _ => .zpiW
  | .styAbs _ _ => .absW
  | .stzZp _ => .zpW
  | .stzZpx _ => .zpiW
  | .stzAbs _ _ => .absW
  | .stzAbx _ _ => .abiW
  | .tax => .imp
  | .tay => .imp
  | .txa => .imp
  | .tya => .imp
  | .tsx => .imp
  | .txs => .imp
  | .pha => .push
  | .phx => .push
  | .phy => .push
  | .php => .push
  | .pla => .pull
  | .plx => .pull
  | .ply => .pull
  | .plp => .pull
  | .adcImm _ => .imm
  | .adcZp _ => .zpR
  | .adcZpx _ => .zpiR
  | .adcAbs _ _ => .absR
  | .adcAbx _ _ => .abiR
  | .adcAby _ _ => .abiR
  | .adcIzx _ => .izxR
  | .adcIzy _ => .izyR
  | .adcIzp _ => .izpR
  | .sbcImm _ => .imm
  | .sbcZp _ => .zpR
  | .sbcZpx _ => .zpiR
  | .sbcAbs _ _ => .absR
  | .sbcAbx _ _ => .abiR
  | .sbcAby _ _ => .abiR
  | .sbcIzx _ => .izxR
  | .sbcIzy _ => .izyR
  | .sbcIzp _ => .izpR
  | .andImm _ => .imm
  | .andZp _ => .zpR
  | .andZpx _ => .zpiR
  | .andAbs _ _ => .absR
  | .andAbx _ _ => .abiR
  | .andAby _ _ => .abiR
  | .andIzx _ => .izxR
  | .andIzy _ => .izyR
  | .andIzp _ => .izpR
  | .oraImm _ => .imm
  | .oraZp _ => .zpR
  | .oraZpx _ => .zpiR
  | .oraAbs _ _ => .absR
  | .oraAbx _ _ => .abiR
  | .oraAby _ _ => .abiR
  | .oraIzx _ => .izxR
  | .oraIzy _ => .izyR
  | .oraIzp _ => .izpR
  | .eorImm _ => .imm
  | .eorZp _ => .zpR
  | .eorZpx _ => .zpiR
  | .eorAbs _ _ => .absR
  | .eorAbx _ _ => .abiR
  | .eorAby _ _ => .abiR
  | .eorIzx _ => .izxR
  | .eorIzy _ => .izyR
  | .eorIzp _ => .izpR
  | .cmpImm _ => .imm
  | .cmpZp _ => .zpR
  | .cmpZpx _ => .zpiR
  | .cmpAbs _ _ => .absR
  | .cmpAbx _ _ => .abiR
  | .cmpAby _ _ => .abiR
  | .cmpIzx _ => .izxR
  | .cmpIzy _ => .izyR
  | .cmpIzp _ => .izpR
  | .cpxImm _ => .imm
  | .cpxZp _ => .zpR
  | .cpxAbs _ _ => .absR
  | .cpyImm _ => .imm
  | .cpyZp _ => .zpR
  | .cpyAbs _ _ => .absR
  | .bitImm _ => .imm
  | .bitZp _ => .zpR
  | .bitZpx _ => .zpiR
  | .bitAbs _ _ => .absR
  | .bitAbx _ _ => .abiR
  | .aslAcc => .imp
  | .aslZp _ => .zpM
  | .aslZpx _ => .zpxM
  | .aslAbs _ _ => .absM
  | .aslAbx _ _ => .abxM
  | .lsrAcc => .imp
  | .lsrZp _ => .zpM
  | .lsrZpx _ => .zpxM
  | .lsrAbs _ _ => .absM
  | .lsrAbx _ _ => .abxM
  | .rolAcc => .imp
  | .rolZp _ => .zpM
  | .rolZpx _ => .zpxM
  | .rolAbs _ _ => .absM
  | .rolAbx _ _ => .abxM
  | .rorAcc => .imp
  | .rorZp _ => .zpM
  | .rorZpx _ => .zpxM
  | .rorAbs _ _ => .absM
  | .rorAbx _ _ => .abxM
  | .incAcc => .imp
  | .incZp _ => .zpM
  | .incZpx _ => .zpxM
  | .incAbs _ _ => .absM
  | .incAbx _ _ => .abxM7
  | .decAcc => .imp
  | .decZp _ => .zpM
  | .decZpx _ => .zpxM
  | .decAbs _ _ => .absM
  | .decAbx _ _ => .abxM7
  | .inx => .imp
  | .iny => .imp
  | .dex => .imp
  | .dey => .imp
  | .tsbZp _ => .zpM
  | .tsbAbs _ _ => .absM
  | .trbZp _ => .zpM
  | .trbAbs _ _ => .absM
  | .rmb0 _ => .zpM
  | .rmb1 _ => .zpM
  | .rmb2 _ => .zpM
  | .rmb3 _ => .zpM
  | .rmb4 _ => .zpM
  | .rmb5 _ => .zpM
  | .rmb6 _ => .zpM
  | .rmb7 _ => .zpM
  | .smb0 _ => .zpM
  | .smb1 _ => .zpM
  | .smb2 _ => .zpM
  | .smb3 _ => .zpM
  | .smb4 _ => .zpM
  | .smb5 _ => .zpM
  | .smb6 _ => .zpM
  | .smb7 _ => .zpM
  | .bcc _ => .rel
  | .bcs _ => .rel
  | .beq _ => .rel
  | .bne _ => .rel
  | .bmi _ => .rel
  | .bpl _ => .rel
  | .bvc _ => .rel
  | .bvs _ => .rel
  | .bra _ => .rel
  | .bbr0 _ _ => .zprel
  | .bbr1 _ _ => .zprel
  | .bbr2 _ _ => .zprel
  | .bbr3 _ _ => .zprel
  | .bbr4 _ _ => .zprel
  | .bbr5 _ _ => .zprel
  | .bbr6 _ _ => .zprel
  | .bbr7 _ _ => .zprel
  | .bbs0 _ _ => .zprel
  | .bbs1 _ _ => .zprel
  | .bbs2 _ _ => .zprel
  | .bbs3 _ _ => .zprel
  | .bbs4 _ _ => .zprel
  | .bbs5 _ _ => .zprel
  | .bbs6 _ _ => .zprel
  | .bbs7 _ _ => .zprel
  | .jmpAbs _ _ => .jmpAbs
  | .jmpInd _ _ => .jmpInd
  | .jmpIax _ _ => .jmpIax
  | .jsr _ _ => .jsr
  | .rts => .rts
  | .clc => .imp
  | .sec => .imp
  | .cld => .imp
  | .sed => .imp
  | .cli => .imp
  | .sei => .imp
  | .clv => .imp
  | .brk => .brk
  | .rti => .rti
  | .nop => .imp
  | .wai => .halt
  | .stp => .halt

/-- The length in bytes of an instruction with a data mode (30_encoding.md R82). -/
def DataMode.bytes (m : DataMode) : Nat :=
  match m with
  | .zp => 2
  | .zpx => 2
  | .zpy => 2
  | .abs => 3
  | .abx => 3
  | .aby => 3
  | .izx => 2
  | .izy => 2
  | .izp => 2

/-- The 44 unassigned opcodes, as 30_encoding.md R90 lists them. -/
def unassignedOpcodes : List Byte :=
  [0x02#8, 0x22#8, 0x42#8, 0x62#8, 0x82#8, 0xC2#8, 0xE2#8] ++
  [0x03#8, 0x13#8, 0x23#8, 0x33#8, 0x43#8, 0x53#8, 0x63#8, 0x73#8, 0x83#8, 0x93#8, 0xA3#8, 0xB3#8, 0xC3#8, 0xD3#8, 0xE3#8,
    0xF3#8] ++
  [0x0B#8, 0x1B#8, 0x2B#8, 0x3B#8, 0x4B#8, 0x5B#8, 0x6B#8, 0x7B#8, 0x8B#8, 0x9B#8, 0xAB#8, 0xBB#8, 0xEB#8, 0xFB#8] ++
  [0x44#8, 0x54#8, 0xD4#8, 0xF4#8] ++
  [0x5C#8, 0xDC#8, 0xFC#8]

/-- The BITOPS opcodes by their low nibble (30_encoding.md R88), and the two of WAISTP (R89). -/
def bitopsOpcode (op : Byte) : Bool := op.toNat % 16 == 7 || op.toNat % 16 == 15

def waistpOpcode (op : Byte) : Bool := op == 0xCB#8 || op == 0xDB#8

/-- "Together with every assigned opcode whose group is not in CAPS" (30_encoding.md R90). -/
def placeholderOpcode (caps : Caps) (op : Byte) : Bool :=
  unassignedOpcodes.contains op || (bitopsOpcode op && !caps.bitops) || (waistpOpcode op && !caps.waistp)

/-- Operand byte 1 and operand byte 2 of an instruction, 0 where it has none. -/
def Instr.op1 (i : Instr) : Byte := (encode i).getD 1 0x00#8

def Instr.op2 (i : Instr) : Byte := (encode i).getD 2 0x00#8

end Sys2Proof

namespace Sys2Proof.Machine

/-! ## What a step leaves -/

/-- What the host's inputs make of the interrupt controller: the two bits and the inputs to come (10_state.md R33). -/
structure HostView where
  nmiPending : Bool
  irqLine : Bool
  inputs : List HostInput
  deriving DecidableEq, Repr

/-- The host's part of a state. -/
def State.host (s : State) : HostView := { nmiPending := s.nmiPending, irqLine := s.irqLine, inputs := s.inputs }

/-- One latching (60_exceptions.md R344); a list that has run out stands for {0, 0}. -/
def HostView.latch (h : HostView) : HostView :=
  { nmiPending := h.nmiPending || (h.inputs.headD { nmiEdge := false, irq := false }).nmiEdge
    irqLine := (h.inputs.headD { nmiEdge := false, irq := false }).irq
    inputs := h.inputs.tail }

/-- The latchings of `n` ticks. -/
def HostView.latches (n : Nat) (h : HostView) : HostView :=
  match n with
  | 0 => h
  | k + 1 => HostView.latches k h.latch

/-- `t` is what `n` cycles that end at an instruction boundary leave of `s`: the registers `r`, the program counter `pc`,
the memory `mem`, the mode `run` and the label `svc`; the configuration is the same, `cyc` has counted the cycles, and the
inputs of every cycle but the first, whose inputs were latched before, have been latched. `seq` is `Instr`. -/
structure Leaves (s t : State) (r : Regs) (pc : Word) (mem : Memory) (run : RunMode) (svc : Svc) (h : HostView)
    (n : Nat) : Prop where
  regs : t.r = r
  pc : t.pc = pc
  mem : t.mem = mem
  run : t.run = run
  svc : t.svc = svc
  cfg : t.cfg = s.cfg
  cyc : t.cyc = s.cyc + n
  host : t.host = h.latches (n - 1)
  boundary : t.t = 1
  seq : t.seq = .instr

/-- Bytes pushed one after another: the memory after `push` of each, S going down by one each time (20_memory.md R60). -/
def pushBytes (c : MemCfg) (m : Memory) (sp : Byte) (vs : List Byte) : Memory :=
  match vs with
  | [] => m
  | v :: vs' => pushBytes c (storeByte c m (stackAddr sp) v) (sp - 1#8) vs'

/-- The address after the instruction: `PC0 +16 n` for an instruction of `n` bytes (10_state.md R25). -/
def State.after (s : State) (n : Nat) : Word := s.pc + BitVec.ofNat 16 n

/-! ## Cycle counts (40_addressing_and_bus_cycles.md R152) -/

/-- The cycles of a read at a data mode: 3, 4, 4, `4+p`, 6, `5+p`, 5. -/
def readCycles (m : DataMode) (cross : Bool) : Nat :=
  match m with
  | .zp => 3
  | .zpx => 4
  | .zpy => 4
  | .abs => 4
  | .abx => 4 + cross.toNat
  | .aby => 4 + cross.toNat
  | .izx => 6
  | .izy => 5 + cross.toNat
  | .izp => 5

/-- The cycles of a store at a data mode; none depends on the page (R117). -/
def storeCycles (m : DataMode) : Nat :=
  match m with
  | .zp => 3
  | .zpx => 4
  | .zpy => 4
  | .abs => 4
  | .abx => 5
  | .aby => 5
  | .izx => 6
  | .izy => 6
  | .izp => 5

/-- The template a micro-op program of the model is. -/
def MicroProgram.template (p : MicroProgram) : Option Template :=
  match p with
  | .imp _ => some .imp
  | .imm _ _ => some .imm
  | .read .zp _ _ => some .zpR
  | .read .zpx _ _ => some .zpiR
  | .read .zpy _ _ => some .zpiR
  | .read .abs _ _ => some .absR
  | .read .abx _ _ => some .abiR
  | .read .aby _ _ => some .abiR
  | .read .izx _ _ => some .izxR
  | .read .izy _ _ => some .izyR
  | .read .izp _ _ => some .izpR
  | .write .zp _ => some .zpW
  | .write .zpx _ => some .zpiW
  | .write .zpy _ => some .zpiW
  | .write .abs _ => some .absW
  | .write .abx _ => some .abiW
  | .write .aby _ => some .abiW
  | .write .izx _ => some .izxW
  | .write .izy _ => some .izyW
  | .write .izp _ => some .izpW
  | .modify .zp false _ _ => some .zpM
  | .modify .zpx false _ _ => some .zpxM
  | .modify .abs false _ _ => some .absM
  | .modify .abx false _ _ => some .abxM
  | .modify .abx true _ _ => some .abxM7
  | .modify _ _ _ _ => none
  | .branch _ => some .rel
  | .bitBranch _ _ => some .zprel
  | .jmpAbs => some .jmpAbs
  | .jmpInd => some .jmpInd
  | .jmpIax => some .jmpIax
  | .jsr => some .jsr
  | .rts => some .rts
  | .rti => some .rti
  | .brk => some .brk
  | .push _ => some .push
  | .pull _ => some .pull
  | .halt _ => some .halt
  | .interrupt _ => none

/-- `+d`: ADC and SBC take one cycle more when `P.D = 1` at the start of the instruction (R151). -/
def decimalCycle (i : Instr) (s : State) : Nat :=
  match program i with
  | .imm true _ => s.r.p.d.toNat
  | .read _ true _ => s.r.p.d.toNat
  | _ => 0

/-- Whether a branch is taken. -/
def branchTaken (i : Instr) (s : State) : Bool :=
  match program i with
  | .branch cond => cond s.r.p
  | .bitBranch n sense => decide ((s.memRead (wordOf 0x00#8 i.op1)).getLsbD n = sense)
  | _ => false

/-- `+t+p` of a branch to `next + off`. -/
def branchCycles (taken : Bool) (next : Word) (off : Byte) : Nat :=
  if taken then (if hiByte (next + off.signExtend 16) = hiByte next then 1 else 2) else 0

/-- The number of cycles of an instruction, as R152 has it: the base of its template, `+p` (one more when the page is
crossed), `+t` (one more when the branch is taken), `+d` (one more in decimal mode). -/
def instrCycles (i : Instr) (s : State) : Nat :=
  (match i.template with
    | .imp => 2
    | .imm => 2
    | .zpR => 3
    | .zpW => 3
    | .zpM => 5
    | .zpiR => 4
    | .zpiW => 4
    | .zpxM => 6
    | .absR => 4
    | .absW => 4
    | .absM => 6
    | .abiR => 4 + (match i.mode with
      | .aby => (decide (0x100 ≤ i.op1.toNat + s.r.y.toNat)).toNat
      | _ => (decide (0x100 ≤ i.op1.toNat + s.r.x.toNat)).toNat)
    | .abiW => 5
    | .abxM => 6 + (decide (0x100 ≤ i.op1.toNat + s.r.x.toNat)).toNat
    | .abxM7 => 7
    | .izxR => 6
    | .izxW => 6
    | .izyR => 5 + (decide (0x100 ≤ (s.memRead (wordOf 0x00#8 i.op1)).toNat + s.r.y.toNat)).toNat
    | .izyW => 6
    | .izpR => 5
    | .izpW => 5
    | .rel => 2 + branchCycles (branchTaken i s) (s.after 2) i.op1
    | .zprel => 5 + branchCycles (branchTaken i s) (s.after 3) i.op2
    | .jmpAbs => 3
    | .jmpInd => 6
    | .jmpIax => 6
    | .jsr => 6
    | .rts => 6
    | .rti => 6
    | .brk => 7
    | .push => 3
    | .pull => 4
    | .halt => 3) + decimalCycle i s

/-! ## Bus traces (40_addressing_and_bus_cycles.md R118 to R151; 60_exceptions.md R349) -/

/-- A BusCycle but for its cycle index. -/
structure Access where
  addr : Word
  data : Byte
  dir : Dir
  sync : Bool
  vp : Bool
  deriving DecidableEq, Repr

/-- The BusCycles of accesses made in consecutive cycles from a cycle index on (10_state.md R36). -/
def records (cyc : Nat) (l : List Access) : List BusCycle :=
  match l with
  | [] => []
  | a :: l' =>
    { cyc := cyc, addr := a.addr, data := a.data, dir := a.dir, sync := a.sync, vp := a.vp } :: records (cyc + 1) l'

/-- A read that fetches no opcode and no vector. -/
def rd (a : Word) (v : Byte) : Access := { addr := a, data := v, dir := .read, sync := false, vp := false }

/-- A write. -/
def wr (a : Word) (v : Byte) : Access := { addr := a, data := v, dir := .write, sync := false, vp := false }

/-- A read of a byte of the data space. -/
def State.rdMem (s : State) (a : Word) : Access := rd a (s.memRead a)

/-- The core in cycle number `k + 1` of an instruction that started in `s` and has written no register and no memory yet:
`k` inputs latched after the first (60_exceptions.md R344), PC and the latches as given. -/
def State.during (s : State) (k : Nat) (pc : Word) (lat : Latches) : DummyView :=
  { r := s.r, pc := pc, mem := s.mem, nmiPending := (s.host.latches k).nmiPending, irqLine := (s.host.latches k).irqLine,
    svc := s.svc, run := s.run, t := k + 1, seq := .instr, lat := lat, cyc := s.cyc + k }

/-- The core in the second cycle of an interrupt sequence that started in `s`, the inputs of the first latched: an NMI is
no longer pending, and `svc` is set (60_exceptions.md R349). -/
def State.duringInterrupt (s : State) (k : IntKind) : DummyView :=
  match k with
  | .nmi => { { s with nmiPending := false }.during 1 s.pc s.lat with seq := .int .nmi, svc := .servicingNmi }
  | .irq => { s.during 1 s.pc s.lat with seq := .int .irq, svc := .servicingIrq }

/-- The core in the idle cycle that comes after `k` others (60_exceptions.md R360, R361). -/
def State.idling (s : State) (k : Nat) : DummyView :=
  { s.view with
    nmiPending := (s.host.latches (k + 1)).nmiPending
    irqLine := (s.host.latches (k + 1)).irqLine
    cyc := s.cyc + k }

/-- A dummy read in a cycle in which the core is `v`: at the address the run's parameter gives it (R114). -/
def State.rdDummy (s : State) (v : DummyView) (d : Dummy) (dflt : Word) : Access :=
  s.rdMem (DummyAddr.eval d v dflt (s.cfg.dummies.get d))

/-- The latches after the fetch cycle (R111). -/
def State.fetched (s : State) (i : Instr) : Latches := { s.lat with ir := opcodeOf i, dec := s.r.p.d }

/-- The latches once the effective address is known (R120 to R138). -/
def State.addressLatches (s : State) (i : Instr) (m : DataMode) : Latches :=
  { (match m with
      | .zp => { s.fetched i with zpa := i.op1 }
      | .zpx => { s.fetched i with zpa := i.op1 }
      | .zpy => { s.fetched i with zpa := i.op1 }
      | .abs => { s.fetched i with adl := i.op1, adh := i.op2 }
      | .abx => { s.fetched i with adl := i.op1, adh := i.op2, cross := s.crosses m i.op1 }
      | .aby => { s.fetched i with adl := i.op1, adh := i.op2, cross := s.crosses m i.op1 }
      | .izx => { s.fetched i with
          zpa := i.op1 + s.r.x, adl := s.memRead (wordOf 0x00#8 (i.op1 + s.r.x)),
          adh := s.memRead (wordOf 0x00#8 (i.op1 + s.r.x + 1#8)) }
      | .izy => { s.fetched i with
          zpa := i.op1, adl := s.memRead (wordOf 0x00#8 i.op1), adh := s.memRead (wordOf 0x00#8 (i.op1 + 1#8)),
          cross := s.crosses m i.op1 }
      | .izp => { s.fetched i with
          zpa := i.op1, adl := s.memRead (wordOf 0x00#8 i.op1), adh := s.memRead (wordOf 0x00#8 (i.op1 + 1#8)) }) with
    ea := s.effAddr m i.op1 i.op2 }

/-- The latches of BBR and BBS once the tested byte is read (R140). -/
def State.tested (s : State) (i : Instr) : Latches :=
  { s.fetched i with zpa := i.op1, dl := s.memRead (wordOf 0x00#8 i.op1) }

/-- The core in cycle number `k + 1`, after the read of the byte at the effective address. -/
def State.afterData (s : State) (i : Instr) (m : DataMode) (k : Nat) : DummyView :=
  s.during k (s.after m.bytes) { s.addressLatches i m with dl := s.memRead (s.effAddr m i.op1 i.op2) }

/-- The indexing cycle of the zero-page indexed modes. -/
def State.rdIndexing (s : State) (i : Instr) : Access :=
  s.rdDummy (s.during 2 (s.after 2) { s.fetched i with zpa := i.op1 }) .da2 (wordOf 0x00#8 i.op1)

/-- The opcode fetch (R111). -/
def State.rdOpcode (s : State) (i : Instr) : Access :=
  { addr := s.pc, data := opcodeOf i, dir := .read, sync := true, vp := false }

/-- The accesses of a data mode from cycle 2 up to the effective address; `always` as in stores (R120 to R138). -/
def State.traceAddress (s : State) (i : Instr) (m : DataMode) (always : Bool) : List Access :=
  match m with
  | .zp => [rd (s.after 1) i.op1]
  | .zpx => [rd (s.after 1) i.op1, s.rdIndexing i]
  | .zpy => [rd (s.after 1) i.op1, s.rdIndexing i]
  | .abs => [rd (s.after 1) i.op1, rd (s.after 2) i.op2]
  | .abx => [rd (s.after 1) i.op1, rd (s.after 2) i.op2] ++ indexing 3 .da4 .da5 .da6 (s.after 2)
  | .aby => [rd (s.after 1) i.op1, rd (s.after 2) i.op2] ++ indexing 3 .da4 .da5 .da6 (s.after 2)
  | .izx =>
    [rd (s.after 1) i.op1, s.rdIndexing i, s.rdMem (wordOf 0x00#8 (i.op1 + s.r.x)),
      s.rdMem (wordOf 0x00#8 (i.op1 + s.r.x + 1#8))]
  | .izy =>
    [rd (s.after 1) i.op1, s.rdMem (wordOf 0x00#8 i.op1), s.rdMem (wordOf 0x00#8 (i.op1 + 1#8))] ++
      indexing 4 .da7 .da8 .da9 (s.after 1)
  | .izp => [rd (s.after 1) i.op1, s.rdMem (wordOf 0x00#8 i.op1), s.rdMem (wordOf 0x00#8 (i.op1 + 1#8))]
where
  /-- The indexing cycle: `last` is the address of the last instruction byte. -/
  indexing (k : Nat) (dRead dSame dCross : Dummy) (last : Word) : List Access :=
    let v := s.during k (s.after m.bytes) (s.addressLatches i m)
    if always then
      if s.crosses m i.op1 then [s.rdDummy v dCross last] else [s.rdDummy v dSame (s.effAddr m i.op1 i.op2)]
    else if s.crosses m i.op1 then [s.rdDummy v dRead last]
    else []

/-- The accesses of a taken branch beyond the untaken one, from cycle number `k + 1` on; `lat` are the latches before the
offset is read (R139, R140). -/
def State.traceBranch (s : State) (k : Nat) (taken : Bool) (next : Word) (off : Byte) (lat : Latches) : List Access :=
  if taken then
    s.rdDummy (s.during k next { lat with rel := off }) .da10 next ::
      (if hiByte (next + off.signExtend 16) = hiByte next then []
      else [s.rdDummy (s.during (k + 1) next { lat with rel := off, cross := true }) .da11
        (wordOf (hiByte next) (loByte (next + off.signExtend 16)))])
  else []

/-- The five accesses of a trap entry: three pushes, and the two vector reads from the memory they leave (R147, R349). -/
def State.traceTrap (s : State) (ret : Word) (b : Bool) (vec : Word) : List Access :=
  let c := s.cfg.memcfg
  let bytes := [hiByte ret, loByte ret, packP s.r.p b]
  let m := pushBytes c s.mem s.r.sp bytes
  [wr (wordOf 0x01#8 s.r.sp) (hiByte ret), wr (wordOf 0x01#8 (s.r.sp - 1#8)) (loByte ret),
    wr (wordOf 0x01#8 (s.r.sp - 2#8)) (packP s.r.p b),
    { addr := vec, data := readByte c m vec, dir := .read, sync := false, vp := true },
    { addr := vec + 1#16, data := readByte c m (vec + 1#16), dir := .read, sync := false, vp := true }]

/-- Cycles 2 and 3 of pulls, RTS and RTI (R145, R146, R149). -/
def State.tracePull (s : State) (i : Instr) : List Access :=
  [s.rdDummy (s.during 1 (s.after 1) (s.fetched i)) .da16 (s.after 1),
    s.rdDummy (s.during 2 (s.after 1) (s.fetched i)) .da15 (wordOf 0x01#8 s.r.sp)]

/-- The accesses of an instruction, one for each cycle, as the row of its template gives them. -/
def State.trace (s : State) (i : Instr) : List Access :=
  s.rdOpcode i ::
  match program i with
  | .imp _ => [s.rdDummy (s.during 1 (s.after 1) (s.fetched i)) .da1 (s.after 1)]
  | .imm decimal _ =>
    rd (s.after 1) i.op1 ::
      (if decimal && s.r.p.d then
        [s.rdDummy (s.during 2 (s.after 2) { s.fetched i with dl := i.op1 }) .da19 (s.after 1)] else [])
  | .read m decimal _ =>
    s.traceAddress i m false ++ [s.rdMem (s.effAddr m i.op1 i.op2)] ++
      (if decimal && s.r.p.d then
        [s.rdDummy (s.afterData i m ((s.traceAddress i m false).length + 2)) .da19 (s.effAddr m i.op1 i.op2)] else [])
  | .write m v => s.traceAddress i m true ++ [wr (s.effAddr m i.op1 i.op2) (v s.r)]
  | .modify m always res _ =>
    s.traceAddress i m always ++ [s.rdMem (s.effAddr m i.op1 i.op2),
      s.rdDummy (s.afterData i m ((s.traceAddress i m always).length + 2)) .da3 (s.effAddr m i.op1 i.op2),
      wr (s.effAddr m i.op1 i.op2) (res (s.memRead (s.effAddr m i.op1 i.op2)) s.r)]
  | .branch _ => rd (s.after 1) i.op1 :: s.traceBranch 2 (branchTaken i s) (s.after 2) i.op1 (s.fetched i)
  | .bitBranch _ _ =>
    [rd (s.after 1) i.op1, s.rdMem (wordOf 0x00#8 i.op1),
      s.rdDummy (s.during 3 (s.after 2) (s.tested i)) .da22 (wordOf 0x00#8 i.op1), rd (s.after 2) i.op2] ++
      s.traceBranch 5 (branchTaken i s) (s.after 3) i.op2 (s.tested i)
  | .jmpAbs => [rd (s.after 1) i.op1, rd (s.after 2) i.op2]
  | .jmpInd =>
    [rd (s.after 1) i.op1, rd (s.after 2) i.op2,
      s.rdDummy (s.during 3 (s.after 3) { s.fetched i with adl := i.op1, adh := i.op2, ea := wordOf i.op2 i.op1 }) .da12
        (s.after 2),
      s.rdMem (wordOf i.op2 i.op1), s.rdMem (wordOf i.op2 i.op1 + 1#16)]
  | .jmpIax =>
    [rd (s.after 1) i.op1, rd (s.after 2) i.op2,
      s.rdDummy (s.during 3 (s.after 3) { s.fetched i with adl := i.op1, adh := i.op2 }) .da13 (s.after 2),
      s.rdMem (wordOf i.op2 i.op1 + s.r.x.setWidth 16), s.rdMem (wordOf i.op2 i.op1 + s.r.x.setWidth 16 + 1#16)]
  | .jsr =>
    [rd (s.after 1) i.op1,
      s.rdDummy (s.during 2 (s.after 2) { s.fetched i with adl := i.op1 }) .da14 (wordOf 0x01#8 s.r.sp),
      wr (wordOf 0x01#8 s.r.sp) (hiByte (s.after 2)), wr (wordOf 0x01#8 (s.r.sp - 1#8)) (loByte (s.after 2)),
      rd (s.after 2) (readByte s.cfg.memcfg
        (pushBytes s.cfg.memcfg s.mem s.r.sp [hiByte (s.after 2), loByte (s.after 2)]) (s.after 2))]
  | .rts =>
    let lo := s.memRead (wordOf 0x01#8 (s.r.sp + 1#8))
    let hi := s.memRead (wordOf 0x01#8 (s.r.sp + 2#8))
    s.tracePull i ++ [rd (wordOf 0x01#8 (s.r.sp + 1#8)) lo, rd (wordOf 0x01#8 (s.r.sp + 2#8)) hi,
      s.rdDummy { s.during 5 (wordOf hi lo) { s.fetched i with adl := lo, adh := hi } with
        r := { s.r with sp := s.r.sp + 2#8 } } .da17 (wordOf hi lo)]
  | .rti =>
    s.tracePull i ++ [s.rdMem (wordOf 0x01#8 (s.r.sp + 1#8)), s.rdMem (wordOf 0x01#8 (s.r.sp + 2#8)),
      s.rdMem (wordOf 0x01#8 (s.r.sp + 3#8))]
  | .brk => s.rdMem (s.after 1) :: s.traceTrap (s.after 2) true 0xFFFE#16
  | .push v => [s.rdDummy (s.during 1 (s.after 1) (s.fetched i)) .da16 (s.after 1), wr (wordOf 0x01#8 s.r.sp) (v s.r)]
  | .pull _ => s.tracePull i ++ [s.rdMem (wordOf 0x01#8 (s.r.sp + 1#8))]
  | .halt _ =>
    [s.rdDummy (s.during 1 (s.after 1) (s.fetched i)) .da20 (s.after 1),
      s.rdDummy (s.during 2 (s.after 1) (s.fetched i)) .da20 (s.after 1)]
  | .interrupt _ => []

/-- The accesses of an interrupt sequence that starts in `s`, its inputs latched: two dummy reads at PC, the first with
`sync`, then the trap entry with B = 0 (60_exceptions.md R349). -/
def State.traceInterrupt (s : State) (k : IntKind) : List Access :=
  { s.rdDummy s.view .da18 s.pc with sync := true } :: s.rdDummy (s.duringInterrupt k) .da18 s.pc ::
    s.traceTrap s.pc false
      (match k with
        | .nmi => 0xFFFA#16
        | .irq => 0xFFFE#16)

/-- The BusCycles a step has emitted, newest first, in front of those before it. -/
def Emits (s t : State) (l : List Access) : Prop := t.bus = (records s.cyc l).reverse ++ s.bus

/-! ## Completion -/

/-- The instruction completes: `exec` answers a next state in which the registers, the program counter and the memory are
the ones given, after `n` cycles, whose BusCycles are those of the instruction's cycle template; `run`, `svc` and the
configuration are as before. Of the state this leaves open the latches, dead at a boundary (10_state.md R32), and the
policy events, which no rule reads (log 17). -/
def Completes (i : Instr) (s : State) (r : Regs) (pc : Word) (mem : Memory) (n : Nat) : Prop :=
  ∃ t, exec i s = .next t ∧ Leaves s t r pc mem s.run s.svc s.host n ∧ Emits s t (s.trace i)

/-- The same for an instruction that stores one byte `v` at `ea`: the memory is that of `MemWrite(ea, 1, v)`, so a read of
any address gives `v` where it names the same RAM byte as `ea`, and else what it gave before (20_memory.md R56). -/
def Stores (i : Instr) (s : State) (r : Regs) (pc : Word) (ea : Word) (v : Byte) (n : Nat) : Prop :=
  ∃ t, exec i s = .next t ∧
    Leaves s t r pc (storeByte s.cfg.memcfg s.mem ea v) s.run s.svc s.host n ∧ Emits s t (s.trace i) ∧
    ∀ a, t.memRead a =
      if regionKind s.cfg.memcfg ea = some .ram ∧ mirrorAddr s.cfg.memcfg a = mirrorAddr s.cfg.memcfg ea then v
      else s.memRead a

/-! ## The forms of an instruction

Each says of one opcode: its value, and for every state and every operand byte that the instruction completes with the
effect the arguments give. -/

/-- T_IMP: `r` from the registers alone, 2 cycles (R118). -/
def ImpForm (op : Byte) (i : Instr) (f : Regs → Regs) : Prop :=
  opcodeOf i = op ∧ ∀ s, Completes i s (f s.r) (s.after 1) s.mem 2

/-- T_IMM: the operand is the byte after the opcode, 2 cycles (R119). -/
def ImmForm (op : Byte) (mk : Byte → Instr) (f : Byte → Regs → Regs) : Prop :=
  ∀ b, opcodeOf (mk b) = op ∧ ∀ s, Completes (mk b) s (f b s.r) (s.after 2) s.mem 2

/-- A read template of one operand byte: M is the byte at the effective address. -/
def ReadForm (op : Byte) (m : DataMode) (mk : Byte → Instr) (f : Byte → Regs → Regs) : Prop :=
  ∀ b, opcodeOf (mk b) = op ∧ ∀ s, Completes (mk b) s (f (s.memRead (s.effAddr m b 0x00#8)) s.r) (s.after m.bytes) s.mem
    (readCycles m (s.crosses m b))

/-- A read template of two operand bytes. -/
def ReadForm2 (op : Byte) (m : DataMode) (mk : Byte → Byte → Instr) (f : Byte → Regs → Regs) : Prop :=
  ∀ lo hi, opcodeOf (mk lo hi) = op ∧ ∀ s, Completes (mk lo hi) s (f (s.memRead (s.effAddr m lo hi)) s.r)
    (s.after m.bytes) s.mem (readCycles m (s.crosses m lo))

/-- T_IMM of ADC and SBC, one cycle more in decimal mode (R151). -/
def DecImmForm (op : Byte) (mk : Byte → Instr) (f : Byte → Regs → Regs) : Prop :=
  ∀ b, opcodeOf (mk b) = op ∧ ∀ s, Completes (mk b) s (f b s.r) (s.after 2) s.mem (2 + s.r.p.d.toNat)

/-- A read template of ADC and SBC, one operand byte. -/
def DecReadForm (op : Byte) (m : DataMode) (mk : Byte → Instr) (f : Byte → Regs → Regs) : Prop :=
  ∀ b, opcodeOf (mk b) = op ∧ ∀ s, Completes (mk b) s (f (s.memRead (s.effAddr m b 0x00#8)) s.r) (s.after m.bytes) s.mem
    (readCycles m (s.crosses m b) + s.r.p.d.toNat)

/-- A read template of ADC and SBC, two operand bytes. -/
def DecReadForm2 (op : Byte) (m : DataMode) (mk : Byte → Byte → Instr) (f : Byte → Regs → Regs) : Prop :=
  ∀ lo hi, opcodeOf (mk lo hi) = op ∧ ∀ s, Completes (mk lo hi) s (f (s.memRead (s.effAddr m lo hi)) s.r)
    (s.after m.bytes) s.mem (readCycles m (s.crosses m lo) + s.r.p.d.toNat)

/-- A store template of one operand byte: `v` is stored at the effective address, no register or flag is touched. -/
def StoreForm (op : Byte) (m : DataMode) (mk : Byte → Instr) (v : Regs → Byte) : Prop :=
  ∀ b, opcodeOf (mk b) = op ∧ ∀ s, Stores (mk b) s s.r (s.after m.bytes) (s.effAddr m b 0x00#8) (v s.r) (storeCycles m)

/-- A store template of two operand bytes. -/
def StoreForm2 (op : Byte) (m : DataMode) (mk : Byte → Byte → Instr) (v : Regs → Byte) : Prop :=
  ∀ lo hi, opcodeOf (mk lo hi) = op ∧ ∀ s, Stores (mk lo hi) s s.r (s.after m.bytes) (s.effAddr m lo hi) (v s.r)
    (storeCycles m)

/-- A read-modify-write template of one operand byte: M is read at the effective address, `res M` is written there, the
flags become `fl M`, and A, X, Y and S stay; `n` cycles (R122, R125). -/
def ModifyForm (op : Byte) (m : DataMode) (mk : Byte → Instr) (res : Byte → Regs → Byte) (fl : Byte → Regs → Flags)
    (n : Nat) : Prop :=
  ∀ b, opcodeOf (mk b) = op ∧ ∀ s, Stores (mk b) s
    { s.r with p := fl (s.memRead (s.effAddr m b 0x00#8)) s.r } (s.after m.bytes) (s.effAddr m b 0x00#8)
    (res (s.memRead (s.effAddr m b 0x00#8)) s.r) n

/-- A read-modify-write template of two operand bytes; `n` is given the page-cross test (R128, R131, R132). -/
def ModifyForm2 (op : Byte) (m : DataMode) (mk : Byte → Byte → Instr) (res : Byte → Regs → Byte)
    (fl : Byte → Regs → Flags) (n : Bool → Nat) : Prop :=
  ∀ lo hi, opcodeOf (mk lo hi) = op ∧ ∀ s, Stores (mk lo hi) s
    { s.r with p := fl (s.memRead (s.effAddr m lo hi)) s.r } (s.after m.bytes) (s.effAddr m lo hi)
    (res (s.memRead (s.effAddr m lo hi)) s.r) (n (s.crosses m lo))

/-- T_PUSH: `v` is stored at `$01:S`, then S goes down by one modulo 256; 3 cycles (R148). -/
def PushForm (op : Byte) (i : Instr) (v : Regs → Byte) : Prop :=
  opcodeOf i = op ∧ ∀ s, Stores i s { s.r with sp := s.r.sp - 1#8 } (s.after 1) (wordOf 0x01#8 s.r.sp) (v s.r) 3

/-- T_PULL: S goes up by one modulo 256, then the byte at `$01:S` is read; 4 cycles (R149). -/
def PullForm (op : Byte) (i : Instr) (f : Byte → Regs → Regs) : Prop :=
  opcodeOf i = op ∧ ∀ s, Completes i s
    (f (s.memRead (wordOf 0x01#8 (s.r.sp + 1#8))) { s.r with sp := s.r.sp + 1#8 }) (s.after 1) s.mem 4

/-- T_REL: to `(PC0 +16 2) +16 sext_16(op1)` when the condition holds of the flags, else to the next instruction; no
register and no flag is written; `2+t+p` cycles (R139). -/
def BranchForm (op : Byte) (mk : Byte → Instr) (cond : Flags → Bool) : Prop :=
  ∀ off, opcodeOf (mk off) = op ∧ ∀ s,
    (cond s.r.p = true → Completes (mk off) s s.r (s.after 2 + off.signExtend 16) s.mem
      (if hiByte (s.after 2 + off.signExtend 16) = hiByte (s.after 2) then 3 else 4)) ∧
    (cond s.r.p = false → Completes (mk off) s s.r (s.after 2) s.mem 2)

/-- T_ZPREL: to `(PC0 +16 3) +16 sext_16(op2)` when bit `n` of the byte at `$00:op1` is `sense`; `5+t+p` cycles (R140). -/
def BitBranchForm (op : Byte) (mk : Byte → Byte → Instr) (n : Nat) (sense : Bool) : Prop :=
  ∀ zp off, opcodeOf (mk zp off) = op ∧ ∀ s,
    ((s.memRead (wordOf 0x00#8 zp)).getLsbD n = sense →
      Completes (mk zp off) s s.r (s.after 3 + off.signExtend 16) s.mem
        (if hiByte (s.after 3 + off.signExtend 16) = hiByte (s.after 3) then 6 else 7)) ∧
    ((s.memRead (wordOf 0x00#8 zp)).getLsbD n ≠ sense → Completes (mk zp off) s s.r (s.after 3) s.mem 5)

/-! ## Boundaries, interrupts and invariants -/

/-- Whether the coming tick finds an NMI pending (60_exceptions.md R344, R346). -/
def State.nmiDue (s : State) : Bool := s.host.latch.nmiPending

/-- Whether the coming tick finds the IRQ line asserted and not masked. -/
def State.irqDue (s : State) : Bool := s.host.latch.irqLine && !s.r.p.i

/-- At an instruction boundary, executing. -/
def State.atBoundary (s : State) : Prop := s.run = .running ∧ s.t = 1

/-- The bytes of an instruction stand in memory from PC on. -/
def State.holds (s : State) (i : Instr) : Prop :=
  ∀ k, k < (encode i).length → s.memRead (s.pc + BitVec.ofNat 16 k) = (encode i).getD k 0x00#8

/-- A record whose signal flags stand only where R112 allows them: `sync` in a read, `vp` in a read of one of the four
interrupt vector bytes. -/
def BusCycle.signalsOk (b : BusCycle) : Prop :=
  (b.sync = true → b.dir = .read ∧ b.vp = false) ∧
    (b.vp = true → b.dir = .read ∧ b.sync = false ∧
      (b.addr = 0xFFFA#16 ∨ b.addr = 0xFFFB#16 ∨ b.addr = 0xFFFE#16 ∨ b.addr = 0xFFFF#16))

/-- THE INVARIANT OF THE MACHINE between steps: memory is in canonical form; the state is at an instruction boundary with
`seq` naming no interrupt; there is one BusCycle for every cycle since reset, numbered from 0 without a gap; and the signal
flags stand where R112 allows them. -/
structure State.Inv (s : State) : Prop where
  memory : s.mem.wf = true
  boundary : s.t = 1
  program : s.seq = .instr
  numbered : s.bus.map BusCycle.cyc = (List.range s.cyc).reverse
  signals : ∀ b ∈ s.bus, b.signalsOk

/-- Agreement of two states on everything but what no rule lets matter: `svc` (60_exceptions.md R358), the latches
(10_state.md R32), `cyc`, the emitted records, and the addresses of dummy cycles (R114). -/
structure Agree (s t : State) : Prop where
  regs : s.r = t.r
  pc : s.pc = t.pc
  mem : s.mem = t.mem
  host : s.host = t.host
  run : s.run = t.run
  caps : s.cfg.caps = t.cfg.caps
  memcfg : s.cfg.memcfg = t.cfg.memcfg
  boundary : s.t = 1 ∧ t.t = 1

/-- `n` steps one after another, up to a fault or a refusal. -/
def steps (n : Nat) (s : State) : Host.Outcome State Fault Refusal :=
  match n with
  | 0 => .next s
  | k + 1 =>
    match step s with
    | .next t => steps k t
    | .fault f => .fault f
    | .refused f => .refused f

/-- A run never meets the one fault of the hardware: from this state `n` steps all answer next states and none of them is
`Faulted` (60_exceptions.md R341). -/
def State.safeFor (n : Nat) (s : State) : Prop :=
  match n with
  | 0 => ∀ op a, s.run ≠ .faulted op a
  | k + 1 => (∀ op a, s.run ≠ .faulted op a) ∧ ∃ t, step s = .next t ∧ State.safeFor k t

end Sys2Proof.Machine
end

