-- ==== Sys2Proof/Certificates/Slice0/Obligations.lean ====
section
/-! DEFINITION. The statements for the provers, in the terms of Sys2Proof/Safety.lean. `Completes` and `Stores` say of an
instruction that `exec` answers a next state, what it is, and that everything else of the machine is as before. -/

section

open Sys2Proof Sys2Proof.Machine

/-! ## Encoding -/

/-- DECODE INVERTS ENCODE, for every instruction, every operand byte and every capability set: the bytes of `i` decode to
`i` exactly when its group is present, and the bytes after it are left (30_encoding.md R80, R85, R89, R91). -/
def Obligations.DecodeInvertsEncode : Prop :=
  ∀ (caps : Caps) (i : Instr) (rest : List Byte),
    decode caps (encode i ++ rest) = .ok i rest ↔ i.wellFormed caps = true

/-- ENCODE INVERTS DECODE: whatever decodes to `i` begins with the bytes of `i`, and the length is that of the addressing
mode; so no two byte strings decode to one instruction but by their rest (30_encoding.md R80, R82, R85). -/
def Obligations.EncodeInvertsDecode : Prop :=
  ∀ (caps : Caps) (bytes rest : List Byte) (i : Instr), decode caps bytes = .ok i rest →
    bytes = encode i ++ rest ∧ bytes.length = i.length + rest.length ∧ i.wellFormed caps = true

/-- One word of every family, written out from 30_encoding.md R86 and R88, decodes to what it stands for. -/
def Obligations.SampleWordsDecode : Prop :=
  decode Caps.all [0xA9#8, 0xAB#8] = .ok (.ldaImm 0xAB#8) [] ∧
  decode Caps.all [0xA5#8, 0x00#8, 0x85#8, 0x10#8] = .ok (.ldaZp 0x00#8) [0x85#8, 0x10#8] ∧
  decode Caps.all [0x85#8, 0x10#8] = .ok (.staZp 0x10#8) [] ∧
  decode Caps.all [0x9A#8] = .ok .txs [] ∧
  decode Caps.all [0x28#8] = .ok .plp [] ∧
  decode Caps.all [0x7D#8, 0x34#8, 0x12#8] = .ok (.adcAbx 0x34#8 0x12#8) [] ∧
  decode Caps.all [0x89#8, 0xC0#8] = .ok (.bitImm 0xC0#8) [] ∧
  decode Caps.all [0x1E#8, 0xF8#8, 0x30#8] = .ok (.aslAbx 0xF8#8 0x30#8) [] ∧
  decode Caps.all [0x37#8, 0x10#8] = .ok (.rmb3 0x10#8) [] ∧
  decode Caps.all [0xFF#8, 0x10#8, 0x80#8] = .ok (.bbs7 0x10#8 0x80#8) [] ∧
  decode Caps.all [0x7C#8, 0x00#8, 0x30#8] = .ok (.jmpIax 0x00#8 0x30#8) [] ∧
  decode Caps.all [0x00#8, 0xEA#8] = .ok .brk [0xEA#8] ∧
  decode Caps.all [0xCB#8] = .ok .wai []

/-- The placeholder slots: exactly the 44 unassigned opcodes are rejected as unassigned, and an opcode of a group is
rejected for its absence exactly when the group is not in CAPS (30_encoding.md R89, R90). -/
def Obligations.PlaceholderOpcodesAreRejected : Prop :=
  ∀ (caps : Caps) (op : Byte) (rest : List Byte),
    (decode caps (op :: rest) = .rejected (.unassigned op) ↔ op ∈ unassignedOpcodes) ∧
    (decode caps (op :: rest) = .rejected (.groupAbsent op .bitops) ↔ bitopsOpcode op = true ∧ caps.bitops = false) ∧
    (decode caps (op :: rest) = .rejected (.groupAbsent op .waistp) ↔ waistpOpcode op = true ∧ caps.waistp = false)

/-- Every instruction runs the template its row of the opcode table names (30_encoding.md R85). -/
def Obligations.ProgramsAreTheTablesTemplates : Prop :=
  ∀ i : Instr, (program i).template = some i.template

/-! ## Addresses, memory, flags -/

/-- The effective address of every data mode, and its page-cross test, from the operand bytes, the registers and memory
(40_addressing_and_bus_cycles.md R115, R116). -/
def Obligations.EffectiveAddressOfEveryMode : Prop :=
  ∀ (s : State) (op1 op2 : Byte),
    s.effAddr .zp op1 op2 = 0x00#8 ++ op1 ∧
    s.effAddr .zpx op1 op2 = 0x00#8 ++ (op1 + s.r.x) ∧
    s.effAddr .zpy op1 op2 = 0x00#8 ++ (op1 + s.r.y) ∧
    s.effAddr .abs op1 op2 = op2 ++ op1 ∧
    s.effAddr .abx op1 op2 = (op2 ++ op1) + s.r.x.setWidth 16 ∧
    s.effAddr .aby op1 op2 = (op2 ++ op1) + s.r.y.setWidth 16 ∧
    s.effAddr .izx op1 op2 = s.memRead (0x00#8 ++ (op1 + s.r.x + 1#8)) ++ s.memRead (0x00#8 ++ (op1 + s.r.x)) ∧
    s.effAddr .izy op1 op2 =
      (s.memRead (0x00#8 ++ (op1 + 1#8)) ++ s.memRead (0x00#8 ++ op1)) + s.r.y.setWidth 16 ∧
    s.effAddr .izp op1 op2 = s.memRead (0x00#8 ++ (op1 + 1#8)) ++ s.memRead (0x00#8 ++ op1) ∧
    (∀ m ∈ [DataMode.abx, DataMode.aby, DataMode.izy],
      s.crosses m op1 = decide (hiByte (s.effAddr m op1 op2) ≠
        hiByte (s.effAddr m op1 op2 - (if m = .abx then s.r.x else s.r.y).setWidth 16))) ∧
    (∀ m ∈ [DataMode.zp, DataMode.zpx, DataMode.zpy, DataMode.abs, DataMode.izx, DataMode.izp],
      s.crosses m op1 = false)

/-- `BusRead(addr)`: the byte is the array's at the mirrored address where that lies in a region, else the fill value with
an `unmapped_read` event; nothing but the record, the event and `cyc` changes (20_memory.md R55, R57). -/
def Obligations.ReadsFollowTheMemoryPolicy : Prop :=
  ∀ (s : State) (a : Word),
    let k := kindIn s.cfg.memcfg.regions (mirrorAddr s.cfg.memcfg a)
    let v := if k = none then s.cfg.memcfg.fill else s.mem.read (mirrorAddr s.cfg.memcfg a).toNat
    s.memRead a = v ∧
    s.busRead a =
      { s with
        cyc := s.cyc + 1
        bus := { cyc := s.cyc, addr := a, data := v, dir := .read, sync := false, vp := false } :: s.bus
        events := if k = none then .unmappedRead a :: s.events else s.events }

/-- `BusWrite(addr, v)`: stored in RAM, at the mirrored address; in a ROM window and in unmapped space the array stays and
an event is recorded; the write cycle is emitted in every case (20_memory.md R56). R56 records of a ROM write
`rom_write`, the address and the byte; that the event carries `MEMCFG.rom_write` too, and that the log of events stands in
the state, newest first, is the model's choice (log 17, DEDUCED). -/
def Obligations.WritesFollowTheMemoryPolicy : Prop :=
  ∀ (s : State) (a : Word) (v : Byte),
    let k := kindIn s.cfg.memcfg.regions (mirrorAddr s.cfg.memcfg a)
    s.busWrite a v =
      { s with
        mem := if k = some .ram then s.mem.write (mirrorAddr s.cfg.memcfg a).toNat v else s.mem
        cyc := s.cyc + 1
        bus := { cyc := s.cyc, addr := a, data := v, dir := .write, sync := false, vp := false } :: s.bus
        events :=
          if k = some .ram then s.events
          else if k = some .rom then .romWrite a v s.cfg.memcfg.romWrite :: s.events
          else .unmappedWrite a v :: s.events }

/-- A read returns the value of the most recent write to the same byte, after mirroring, and a write leaves every other byte
alone: after two writes, a read of any address gives the later byte, else the earlier one, else what was there
(20_memory.md R54, R65). -/
def Obligations.ReadsReturnTheMostRecentWrite : Prop :=
  ∀ (s : State) (a b c : Word) (v w : Byte),
    let m := mirrorAddr s.cfg.memcfg
    ((s.busWrite a v).busWrite b w).memRead c =
      if m c = m b ∧ regionKind s.cfg.memcfg b = some .ram then w
      else if m c = m a ∧ regionKind s.cfg.memcfg a = some .ram then v
      else s.memRead c

/-- The model's own: two memories in canonical form that hold the same bytes are the same data, so equality of states is
equality of what the 65536 bytes of the backing array hold (20_memory.md R51). -/
def Obligations.CanonicalMemoriesAreEqual : Prop :=
  ∀ m m' : Memory, m.wf = true → m'.wf = true → (∀ k < 0x10000, m.read k = m'.read k) → m = m'

/-- `SetNZ(v)`: `P.Z <- (v == 0); P.N <- v[7]`, and no other flag (10_state.md R29). -/
def Obligations.SetNZWritesTwoFlags : Prop :=
  ∀ (v : Byte) (p : Flags), setNZ v p = { n := v.getLsbD 7, v := p.v, d := p.d, i := p.i, z := v == 0#8, c := p.c }

/-- The packed status: N bit 7, V bit 6, bit 5 as 1, B bit 4, D bit 3, I bit 2, Z bit 1, C bit 0 when P is written; bits 5
and 4 discarded when it is read back; "Get B" answers 1 and "set B" has no effect (10_state.md R26, R28). -/
def Obligations.PackedStatusBitPlaces : Prop :=
  (∀ (p : Flags) (b : Bool),
    (packP p b).getLsbD 7 = p.n ∧ (packP p b).getLsbD 6 = p.v ∧ (packP p b).getLsbD 5 = true ∧
    (packP p b).getLsbD 4 = b ∧ (packP p b).getLsbD 3 = p.d ∧ (packP p b).getLsbD 2 = p.i ∧
    (packP p b).getLsbD 1 = p.z ∧ (packP p b).getLsbD 0 = p.c) ∧
  (∀ v : Byte, unpackP v =
    { n := v.getLsbD 7, v := v.getLsbD 6, d := v.getLsbD 3, i := v.getLsbD 2, z := v.getLsbD 1, c := v.getLsbD 0 }) ∧
  (∀ (p : Flags) (b : Bool), unpackP (packP p b) = p ∧ p.get .b = true ∧ p.set .b b = p)

/-! ## Loads, stores and transfers -/

/-- LDA: `A <- M; SetNZ(M)` in its nine forms, with their opcodes and cycle counts (41_load_store_transfer.md R171). -/
def Obligations.LdaLoadsAndSetsNZ : Prop :=
  let f : Byte → Regs → Regs := fun m r => { r with a := m, p := setNZ m r.p }
  ImmForm 0xA9#8 .ldaImm f ∧ ReadForm 0xA5#8 .zp .ldaZp f ∧ ReadForm 0xB5#8 .zpx .ldaZpx f ∧
  ReadForm2 0xAD#8 .abs .ldaAbs f ∧ ReadForm2 0xBD#8 .abx .ldaAbx f ∧ ReadForm2 0xB9#8 .aby .ldaAby f ∧
  ReadForm 0xA1#8 .izx .ldaIzx f ∧ ReadForm 0xB1#8 .izy .ldaIzy f ∧ ReadForm 0xB2#8 .izp .ldaIzp f

/-- LDX: `X <- M; SetNZ(M)`, indexed by Y; LDY: `Y <- M; SetNZ(M)`, indexed by X (R172, R173). -/
def Obligations.LdxLdyLoadAndSetNZ : Prop :=
  let fx : Byte → Regs → Regs := fun m r => { r with x := m, p := setNZ m r.p }
  let fy : Byte → Regs → Regs := fun m r => { r with y := m, p := setNZ m r.p }
  ImmForm 0xA2#8 .ldxImm fx ∧ ReadForm 0xA6#8 .zp .ldxZp fx ∧ ReadForm 0xB6#8 .zpy .ldxZpy fx ∧
  ReadForm2 0xAE#8 .abs .ldxAbs fx ∧ ReadForm2 0xBE#8 .aby .ldxAby fx ∧
  ImmForm 0xA0#8 .ldyImm fy ∧ ReadForm 0xA4#8 .zp .ldyZp fy ∧ ReadForm 0xB4#8 .zpx .ldyZpx fy ∧
  ReadForm2 0xAC#8 .abs .ldyAbs fy ∧ ReadForm2 0xBC#8 .abx .ldyAbx fy

/-- STA, STX, STY and STZ: `MemWrite(EA, 1, v)` with v the register A, X, Y, or $00; no register and no flag changes
(R174, R175, R176, R177). -/
def Obligations.StoresWriteOneByte : Prop :=
  let v : Regs → Byte := fun r => r.a
  let x : Regs → Byte := fun r => r.x
  let y : Regs → Byte := fun r => r.y
  let z : Regs → Byte := fun _ => 0x00#8
  StoreForm 0x85#8 .zp .staZp v ∧ StoreForm 0x95#8 .zpx .staZpx v ∧ StoreForm2 0x8D#8 .abs .staAbs v ∧
  StoreForm2 0x9D#8 .abx .staAbx v ∧ StoreForm2 0x99#8 .aby .staAby v ∧ StoreForm 0x81#8 .izx .staIzx v ∧
  StoreForm 0x91#8 .izy .staIzy v ∧ StoreForm 0x92#8 .izp .staIzp v ∧
  StoreForm 0x86#8 .zp .stxZp x ∧ StoreForm 0x96#8 .zpy .stxZpy x ∧ StoreForm2 0x8E#8 .abs .stxAbs x ∧
  StoreForm 0x84#8 .zp .styZp y ∧ StoreForm 0x94#8 .zpx .styZpx y ∧ StoreForm2 0x8C#8 .abs .styAbs y ∧
  StoreForm 0x64#8 .zp .stzZp z ∧ StoreForm 0x74#8 .zpx .stzZpx z ∧ StoreForm2 0x9C#8 .abs .stzAbs z ∧
  StoreForm2 0x9E#8 .abx .stzAbx z

/-- The transfers TAX, TAY, TXA, TYA, TSX set N and Z; TXS "is the one transfer that does not" (R178 to R183). -/
def Obligations.TransfersCopyRegisters : Prop :=
  ImpForm 0xAA#8 .tax (fun r => { r with x := r.a, p := setNZ r.a r.p }) ∧
  ImpForm 0xA8#8 .tay (fun r => { r with y := r.a, p := setNZ r.a r.p }) ∧
  ImpForm 0x8A#8 .txa (fun r => { r with a := r.x, p := setNZ r.x r.p }) ∧
  ImpForm 0x98#8 .tya (fun r => { r with a := r.y, p := setNZ r.y r.p }) ∧
  ImpForm 0xBA#8 .tsx (fun r => { r with x := r.sp, p := setNZ r.sp r.p }) ∧
  ImpForm 0x9A#8 .txs (fun r => { r with sp := r.x })

/-! ## Stack -/

/-- PHA, PHX, PHY push the register, PHP pushes `N:V:1:1:D:I:Z:C`; no flag changes (42_stack.md R201 to R204). -/
def Obligations.PushesStoreAtTheStackPointer : Prop :=
  PushForm 0x48#8 .pha (fun r => r.a) ∧ PushForm 0xDA#8 .phx (fun r => r.x) ∧ PushForm 0x5A#8 .phy (fun r => r.y) ∧
  PushForm 0x08#8 .php (fun r => packP r.p true)

/-- PLA, PLX, PLY: the register is pulled and `SetNZ` of it; PLP: six flags from the pulled byte (R205 to R208). -/
def Obligations.PullsLoadFromTheStack : Prop :=
  PullForm 0x68#8 .pla (fun v r => { r with a := v, p := setNZ v r.p }) ∧
  PullForm 0xFA#8 .plx (fun v r => { r with x := v, p := setNZ v r.p }) ∧
  PullForm 0x7A#8 .ply (fun v r => { r with y := v, p := setNZ v r.p }) ∧
  PullForm 0x28#8 .plp (fun v r =>
    { r with
      p := { n := v.getLsbD 7, v := v.getLsbD 6, d := v.getLsbD 3, i := v.getLsbD 2, z := v.getLsbD 1,
             c := v.getLsbD 0 } })

/-! ## Arithmetic and logic -/

/-- ADC in its nine forms, in every state: binary as R221 says when `P.D = 0`, and else the operation `opAdc` of decimal
mode, which the next statements give, with one cycle more (43_alu.md R221; 40_addressing_and_bus_cycles.md R151). -/
def Obligations.AdcAddsWithCarry : Prop :=
  let f : Byte → Regs → Regs := fun m r =>
    if r.p.d then opAdc m r
    else
      let t := r.a.toNat + m.toNat + r.p.c.toNat
      let v := BitVec.ofNat 8 t
      { r with a := v, p := setNZ v { r.p with c := t.testBit 8, v := ((r.a ^^^ v) &&& (m ^^^ v)).getLsbD 7 } }
  DecImmForm 0x69#8 .adcImm f ∧ DecReadForm 0x65#8 .zp .adcZp f ∧ DecReadForm 0x75#8 .zpx .adcZpx f ∧
  DecReadForm2 0x6D#8 .abs .adcAbs f ∧ DecReadForm2 0x7D#8 .abx .adcAbx f ∧ DecReadForm2 0x79#8 .aby .adcAby f ∧
  DecReadForm 0x61#8 .izx .adcIzx f ∧ DecReadForm 0x71#8 .izy .adcIzy f ∧ DecReadForm 0x72#8 .izp .adcIzp f

/-- SBC in its nine forms: binary as R223 says when `P.D = 0`, and else `opSbc` of decimal mode (43_alu.md R223). -/
def Obligations.SbcSubtractsWithBorrow : Prop :=
  let f : Byte → Regs → Regs := fun m r =>
    if r.p.d then opSbc m r
    else
      let m' := m ^^^ 0xFF#8
      let t := r.a.toNat + m'.toNat + r.p.c.toNat
      let v := BitVec.ofNat 8 t
      { r with a := v, p := setNZ v { r.p with c := t.testBit 8, v := ((r.a ^^^ v) &&& (m' ^^^ v)).getLsbD 7 } }
  DecImmForm 0xE9#8 .sbcImm f ∧ DecReadForm 0xE5#8 .zp .sbcZp f ∧ DecReadForm 0xF5#8 .zpx .sbcZpx f ∧
  DecReadForm2 0xED#8 .abs .sbcAbs f ∧ DecReadForm2 0xFD#8 .abx .sbcAbx f ∧ DecReadForm2 0xF9#8 .aby .sbcAby f ∧
  DecReadForm 0xE1#8 .izx .sbcIzx f ∧ DecReadForm 0xF1#8 .izy .sbcIzy f ∧ DecReadForm 0xF2#8 .izp .sbcIzp f

/-- C and V of binary ADC and SBC mean what R232 (b) says: the unsigned carry or not-borrow, and that the true signed result
lies outside -128 to +127. -/
def Obligations.CarryAndOverflowMeanWhatTheySay : Prop :=
  ∀ (a m : Byte) (c : Bool),
    ((adcBinary a m c).carry = true ↔ 255 < a.toNat + m.toNat + c.toNat) ∧
    ((adcBinary a m c).overflow = true ↔
      a.toInt + m.toInt + c.toNat < -128 ∨ 127 < a.toInt + m.toInt + c.toNat) ∧
    ((sbcBinary a m c).carry = true ↔ m.toNat + (1 - c.toNat) ≤ a.toNat) ∧
    ((sbcBinary a m c).overflow = true ↔
      a.toInt - m.toInt - (1 - c.toNat : Int) < -128 ∨ 127 < a.toInt - m.toInt - (1 - c.toNat : Int)) ∧
    (sbcBinary a m c).value = a - m - BitVec.ofNat 8 (1 - c.toNat)

/-- Decimal ADC and SBC on packed BCD operands are decimal arithmetic: A is the packed BCD of the sum modulo 100 with C the
decimal carry, and of the difference modulo 100 with C = 1 for no borrow; N and Z are those of the decimal result, D and I
stay (43_alu.md R222, R224). V is not spoken of here: its formula has no decimal meaning (log 8). -/
def Obligations.DecimalResultsAreDecimalArithmetic : Prop :=
  let bcd : Nat → Byte := fun n => BitVec.ofNat 8 (n / 10 * 16 + n % 10)
  ∀ (x y : Nat) (r : Regs), x < 100 → y < 100 → r.p.d = true → r.a = bcd x →
    (let sum := bcd ((x + y + r.p.c.toNat) % 100)
     opAdc (bcd y) r =
       { r with
         a := sum
         p :=
           { n := sum.getLsbD 7, v := (opAdc (bcd y) r).p.v, d := true, i := r.p.i, z := sum == 0#8,
             c := decide (99 < x + y + r.p.c.toNat) } }) ∧
    (let dif := bcd ((100 + x - y - (1 - r.p.c.toNat)) % 100)
     opSbc (bcd y) r =
       { r with
         a := dif
         p :=
           { n := dif.getLsbD 7, v := (sbcBinary r.a (bcd y) r.p.c).overflow, d := true, i := r.p.i, z := dif == 0#8,
             c := decide (y + (1 - r.p.c.toNat) ≤ x) } })

/-- Decimal ADC and SBC on BCD operands, step by step as R222 and R224 write them, V included, whose
formula "is what is generally reported of the part" (log 8). -/
def Obligations.DecimalResultsFollowTheFormulas : Prop :=
  ∀ (m : Byte) (r : Regs), r.p.d = true → r.a.toNat % 16 < 10 → r.a.toNat / 16 < 10 → m.toNat % 16 < 10 →
    m.toNat / 16 < 10 →
    (let al0 := (r.a &&& 0x0F#8).toNat + (m &&& 0x0F#8).toNat + r.p.c.toNat
     let al := if 0x0A ≤ al0 then ((al0 + 0x06) &&& 0x0F) + 0x10 else al0
     let s0 := (r.a &&& 0xF0#8).toNat + (m &&& 0xF0#8).toNat + al
     let ss := (r.a &&& 0xF0#8).toInt + (m &&& 0xF0#8).toInt + (al : Int)
     let s1 := if 0xA0 ≤ s0 then s0 + 0x60 else s0
     opAdc m r =
       { r with
         a := BitVec.ofNat 8 s1
         p := setNZ (BitVec.ofNat 8 s1) { r.p with v := decide (ss < -128 ∨ 127 < ss), c := decide (0x100 ≤ s1) } }) ∧
    (let al : Int := ((r.a &&& 0x0F#8).toNat : Int) - (m &&& 0x0F#8).toNat + r.p.c.toNat - 1
     let s0 : Int := (r.a.toNat : Int) - m.toNat + r.p.c.toNat - 1
     let s1 := if s0 < 0 then s0 - 0x60 else s0
     let s2 := if al < 0 then s1 - 0x06 else s1
     let t := r.a.toNat + (m ^^^ 0xFF#8).toNat + r.p.c.toNat
     let v := BitVec.ofNat 8 t
     opSbc m r =
       { r with
         a := BitVec.ofInt 8 s2
         p := setNZ (BitVec.ofInt 8 s2)
           { r.p with v := ((r.a ^^^ v) &&& ((m ^^^ 0xFF#8) ^^^ v)).getLsbD 7, c := t.testBit 8 } })

/-- Decimal ADC and SBC on operands of which one is no BCD: "A, N, V, Z and C are unspecified" (R222, R224). They are the
five parts of a free value of the model (log 7), which is a function of A, M and P as R220 requires; X, Y, S, D and I stay.
The free values have no body, so this holds whatever they are. -/
def Obligations.InvalidDecimalIsAFreeValue : Prop :=
  ∀ (m : Byte) (r : Regs), r.p.d = true → ¬(isBcd r.a = true ∧ isBcd m = true) →
    (let o := Config.freeDecimalAdc r.a m (packP r.p true)
     opAdc m r =
       { a := o.a, x := r.x, y := r.y, sp := r.sp
         p := { n := o.n, v := o.v, d := true, i := r.p.i, z := o.z, c := o.c } }) ∧
    (let o := Config.freeDecimalSbc r.a m (packP r.p true)
     opSbc m r =
       { a := o.a, x := r.x, y := r.y, sp := r.sp
         p := { n := o.n, v := o.v, d := true, i := r.p.i, z := o.z, c := o.c } })

/-- AND, ORA, EOR: `A <- A op M; SetNZ(A)` (R225, R226, R227). -/
def Obligations.LogicOperationsSetNZ : Prop :=
  let fa : Byte → Regs → Regs := fun m r => { r with a := r.a &&& m, p := setNZ (r.a &&& m) r.p }
  let fo : Byte → Regs → Regs := fun m r => { r with a := r.a ||| m, p := setNZ (r.a ||| m) r.p }
  let fe : Byte → Regs → Regs := fun m r => { r with a := r.a ^^^ m, p := setNZ (r.a ^^^ m) r.p }
  ImmForm 0x29#8 .andImm fa ∧ ReadForm 0x25#8 .zp .andZp fa ∧ ReadForm 0x35#8 .zpx .andZpx fa ∧
  ReadForm2 0x2D#8 .abs .andAbs fa ∧ ReadForm2 0x3D#8 .abx .andAbx fa ∧ ReadForm2 0x39#8 .aby .andAby fa ∧
  ReadForm 0x21#8 .izx .andIzx fa ∧ ReadForm 0x31#8 .izy .andIzy fa ∧ ReadForm 0x32#8 .izp .andIzp fa ∧
  ImmForm 0x09#8 .oraImm fo ∧ ReadForm 0x05#8 .zp .oraZp fo ∧ ReadForm 0x15#8 .zpx .oraZpx fo ∧
  ReadForm2 0x0D#8 .abs .oraAbs fo ∧ ReadForm2 0x1D#8 .abx .oraAbx fo ∧ ReadForm2 0x19#8 .aby .oraAby fo ∧
  ReadForm 0x01#8 .izx .oraIzx fo ∧ ReadForm 0x11#8 .izy .oraIzy fo ∧ ReadForm 0x12#8 .izp .oraIzp fo ∧
  ImmForm 0x49#8 .eorImm fe ∧ ReadForm 0x45#8 .zp .eorZp fe ∧ ReadForm 0x55#8 .zpx .eorZpx fe ∧
  ReadForm2 0x4D#8 .abs .eorAbs fe ∧ ReadForm2 0x5D#8 .abx .eorAbx fe ∧ ReadForm2 0x59#8 .aby .eorAby fe ∧
  ReadForm 0x41#8 .izx .eorIzx fe ∧ ReadForm 0x51#8 .izy .eorIzy fe ∧ ReadForm 0x52#8 .izp .eorIzp fe

/-- CMP, CPX, CPY: `d <- R -8 M; P.C <- (R >= M) unsigned; SetNZ(d)`; no register is written (R228, R229, R230). -/
def Obligations.ComparesSetNZAndCarry : Prop :=
  let f : (Regs → Byte) → Byte → Regs → Regs := fun reg m r =>
    { r with p := setNZ (reg r - m) { r.p with c := decide (reg r ≥ m) } }
  let fa := f (fun r => r.a)
  let fx := f (fun r => r.x)
  let fy := f (fun r => r.y)
  ImmForm 0xC9#8 .cmpImm fa ∧ ReadForm 0xC5#8 .zp .cmpZp fa ∧ ReadForm 0xD5#8 .zpx .cmpZpx fa ∧
  ReadForm2 0xCD#8 .abs .cmpAbs fa ∧ ReadForm2 0xDD#8 .abx .cmpAbx fa ∧ ReadForm2 0xD9#8 .aby .cmpAby fa ∧
  ReadForm 0xC1#8 .izx .cmpIzx fa ∧ ReadForm 0xD1#8 .izy .cmpIzy fa ∧ ReadForm 0xD2#8 .izp .cmpIzp fa ∧
  ImmForm 0xE0#8 .cpxImm fx ∧ ReadForm 0xE4#8 .zp .cpxZp fx ∧ ReadForm2 0xEC#8 .abs .cpxAbs fx ∧
  ImmForm 0xC0#8 .cpyImm fy ∧ ReadForm 0xC4#8 .zp .cpyZp fy ∧ ReadForm2 0xCC#8 .abs .cpyAbs fy

/-- BIT: Z from `A & M` in every form; N and V from bits 7 and 6 of M in the four memory forms alone (R231). -/
def Obligations.BitTestsTheOperand : Prop :=
  let f : Byte → Regs → Regs := fun m r =>
    { r with p := { r.p with z := r.a &&& m == 0#8, n := m.getLsbD 7, v := m.getLsbD 6 } }
  ImmForm 0x89#8 .bitImm (fun m r => { r with p := { r.p with z := r.a &&& m == 0#8 } }) ∧
  ReadForm 0x24#8 .zp .bitZp f ∧ ReadForm 0x34#8 .zpx .bitZpx f ∧ ReadForm2 0x2C#8 .abs .bitAbs f ∧
  ReadForm2 0x3C#8 .abx .bitAbx f

/-! ## Shifts, increments, memory bits -/

/-- ASL, LSR, ROL and ROR on A and on memory: the result, C from the bit shifted out, `SetNZ(r)`; a rotate takes in the
carry before the instruction at the other end (44_rmw.md R251, R252, R253, R254). -/
def Obligations.ShiftsAndRotatesMoveOneBit : Prop :=
  let ra : Byte → Regs → Byte := fun m _ => m <<< 1
  let fa : Byte → Regs → Flags := fun m r => setNZ (m <<< 1) { r.p with c := m.getLsbD 7 }
  let rl : Byte → Regs → Byte := fun m _ => m >>> 1
  let fl : Byte → Regs → Flags := fun m r => setNZ (m >>> 1) { r.p with c := m.getLsbD 0 }
  let wl : Byte → Regs → Byte := fun m r => (m <<< 1) ||| (BitVec.ofBool r.p.c).setWidth 8
  let gl : Byte → Regs → Flags := fun m r => setNZ (wl m r) { r.p with c := m.getLsbD 7 }
  let wr : Byte → Regs → Byte := fun m r => (m >>> 1) ||| ((BitVec.ofBool r.p.c).setWidth 8 <<< 7)
  let gr : Byte → Regs → Flags := fun m r => setNZ (wr m r) { r.p with c := m.getLsbD 0 }
  ImpForm 0x0A#8 .aslAcc (fun r => { r with a := ra r.a r, p := fa r.a r }) ∧
  ModifyForm 0x06#8 .zp .aslZp ra fa 5 ∧ ModifyForm 0x16#8 .zpx .aslZpx ra fa 6 ∧
  ModifyForm2 0x0E#8 .abs .aslAbs ra fa (fun _ => 6) ∧ ModifyForm2 0x1E#8 .abx .aslAbx ra fa (fun p => 6 + p.toNat) ∧
  ImpForm 0x4A#8 .lsrAcc (fun r => { r with a := rl r.a r, p := fl r.a r }) ∧
  ModifyForm 0x46#8 .zp .lsrZp rl fl 5 ∧ ModifyForm 0x56#8 .zpx .lsrZpx rl fl 6 ∧
  ModifyForm2 0x4E#8 .abs .lsrAbs rl fl (fun _ => 6) ∧ ModifyForm2 0x5E#8 .abx .lsrAbx rl fl (fun p => 6 + p.toNat) ∧
  ImpForm 0x2A#8 .rolAcc (fun r => { r with a := wl r.a r, p := gl r.a r }) ∧
  ModifyForm 0x26#8 .zp .rolZp wl gl 5 ∧ ModifyForm 0x36#8 .zpx .rolZpx wl gl 6 ∧
  ModifyForm2 0x2E#8 .abs .rolAbs wl gl (fun _ => 6) ∧ ModifyForm2 0x3E#8 .abx .rolAbx wl gl (fun p => 6 + p.toNat) ∧
  ImpForm 0x6A#8 .rorAcc (fun r => { r with a := wr r.a r, p := gr r.a r }) ∧
  ModifyForm 0x66#8 .zp .rorZp wr gr 5 ∧ ModifyForm 0x76#8 .zpx .rorZpx wr gr 6 ∧
  ModifyForm2 0x6E#8 .abs .rorAbs wr gr (fun _ => 6) ∧ ModifyForm2 0x7E#8 .abx .rorAbx wr gr (fun p => 6 + p.toNat)

/-- INC and DEC on A and on memory: `r <- M +8 1`, `r <- M -8 1`, `SetNZ(r)`; the `abx` form takes 7 cycles always
(R255, R256). -/
def Obligations.IncDecWrapAndSetNZ : Prop :=
  let ri : Byte → Regs → Byte := fun m _ => m + 1#8
  let fi : Byte → Regs → Flags := fun m r => setNZ (m + 1#8) r.p
  let rd : Byte → Regs → Byte := fun m _ => m - 1#8
  let fd : Byte → Regs → Flags := fun m r => setNZ (m - 1#8) r.p
  ImpForm 0x1A#8 .incAcc (fun r => { r with a := ri r.a r, p := fi r.a r }) ∧
  ModifyForm 0xE6#8 .zp .incZp ri fi 5 ∧ ModifyForm 0xF6#8 .zpx .incZpx ri fi 6 ∧
  ModifyForm2 0xEE#8 .abs .incAbs ri fi (fun _ => 6) ∧ ModifyForm2 0xFE#8 .abx .incAbx ri fi (fun _ => 7) ∧
  ImpForm 0x3A#8 .decAcc (fun r => { r with a := rd r.a r, p := fd r.a r }) ∧
  ModifyForm 0xC6#8 .zp .decZp rd fd 5 ∧ ModifyForm 0xD6#8 .zpx .decZpx rd fd 6 ∧
  ModifyForm2 0xCE#8 .abs .decAbs rd fd (fun _ => 6) ∧ ModifyForm2 0xDE#8 .abx .decAbx rd fd (fun _ => 7)

/-- INX, INY, DEX, DEY (R257 to R260). -/
def Obligations.IndexIncDecWrapAndSetNZ : Prop :=
  ImpForm 0xE8#8 .inx (fun r => { r with x := r.x + 1#8, p := setNZ (r.x + 1#8) r.p }) ∧
  ImpForm 0xC8#8 .iny (fun r => { r with y := r.y + 1#8, p := setNZ (r.y + 1#8) r.p }) ∧
  ImpForm 0xCA#8 .dex (fun r => { r with x := r.x - 1#8, p := setNZ (r.x - 1#8) r.p }) ∧
  ImpForm 0x88#8 .dey (fun r => { r with y := r.y - 1#8, p := setNZ (r.y - 1#8) r.p })

/-- TSB and TRB: Z from `A & M` on the value before, `r <- M | A` and `r <- M & ~A`; A stays (R261, R262). -/
def Obligations.TsbTrbTestThenWrite : Prop :=
  let rs : Byte → Regs → Byte := fun m r => m ||| r.a
  let rr : Byte → Regs → Byte := fun m r => m &&& ~~~r.a
  let f : Byte → Regs → Flags := fun m r => { r.p with z := r.a &&& m == 0#8 }
  ModifyForm 0x04#8 .zp .tsbZp rs f 5 ∧ ModifyForm2 0x0C#8 .abs .tsbAbs rs f (fun _ => 6) ∧
  ModifyForm 0x14#8 .zp .trbZp rr f 5 ∧ ModifyForm2 0x1C#8 .abs .trbAbs rr f (fun _ => 6)

/-- RMBn and SMBn, n = 0 to 7: bit n of the byte at `$00:op1` is cleared or set, no flag changes; without BITOPS in CAPS
the opcode is refused by the decoder (R263, R264). -/
def Obligations.RmbSmbWriteOneBit : Prop :=
  let rr : Nat → Byte → Regs → Byte := fun n m _ => m &&& ~~~(1#8 <<< n)
  let rs : Nat → Byte → Regs → Byte := fun n m _ => m ||| (1#8 <<< n)
  let f : Byte → Regs → Flags := fun _ r => r.p
  let rmb : List (Byte → Instr) := [.rmb0, .rmb1, .rmb2, .rmb3, .rmb4, .rmb5, .rmb6, .rmb7]
  let smb : List (Byte → Instr) := [.smb0, .smb1, .smb2, .smb3, .smb4, .smb5, .smb6, .smb7]
  ∀ (n : Nat) (mk : Byte → Instr),
    (rmb[n]? = some mk → ModifyForm (BitVec.ofNat 8 (0x07 + 0x10 * n)) .zp mk (rr n) f 5) ∧
    (smb[n]? = some mk → ModifyForm (BitVec.ofNat 8 (0x87 + 0x10 * n)) .zp mk (rs n) f 5) ∧
    (mk ∈ rmb ++ smb → ∀ (caps : Caps) (z : Byte) (rest : List Byte), caps.bitops = false →
      ∃ op, decode caps (encode (mk z) ++ rest) = .rejected (.groupAbsent op .bitops))

/-! ## Control flow -/

/-- The conditional branches and BRA, with their conditions on the flags before the instruction, targets and cycle counts
(45_branch_jump.md R281 to R289). -/
def Obligations.BranchesTestOneFlag : Prop :=
  BranchForm 0x90#8 .bcc (fun p => !p.c) ∧ BranchForm 0xB0#8 .bcs (fun p => p.c) ∧
  BranchForm 0xF0#8 .beq (fun p => p.z) ∧ BranchForm 0xD0#8 .bne (fun p => !p.z) ∧
  BranchForm 0x30#8 .bmi (fun p => p.n) ∧ BranchForm 0x10#8 .bpl (fun p => !p.n) ∧
  BranchForm 0x50#8 .bvc (fun p => !p.v) ∧ BranchForm 0x70#8 .bvs (fun p => p.v) ∧
  BranchForm 0x80#8 .bra (fun _ => true)

/-- BBRn and BBSn, n = 0 to 7: taken when bit n of the byte at `$00:op1` is 0 or 1; without BITOPS in CAPS the opcode is
refused by the decoder (R290, R291). -/
def Obligations.BitBranchesTestOneBit : Prop :=
  let bbr : List (Byte → Byte → Instr) := [.bbr0, .bbr1, .bbr2, .bbr3, .bbr4, .bbr5, .bbr6, .bbr7]
  let bbs : List (Byte → Byte → Instr) := [.bbs0, .bbs1, .bbs2, .bbs3, .bbs4, .bbs5, .bbs6, .bbs7]
  ∀ (n : Nat) (mk : Byte → Byte → Instr),
    (bbr[n]? = some mk → BitBranchForm (BitVec.ofNat 8 (0x0F + 0x10 * n)) mk n false) ∧
    (bbs[n]? = some mk → BitBranchForm (BitVec.ofNat 8 (0x8F + 0x10 * n)) mk n true) ∧
    (mk ∈ bbr ++ bbs → ∀ (caps : Caps) (z off : Byte) (rest : List Byte), caps.bitops = false →
      ∃ op, decode caps (encode (mk z off) ++ rest) = .rejected (.groupAbsent op .bitops))

/-- The three JMPs; the pointer of the indirect ones is incremented with full 16-bit carry (R292, R293, R294). -/
def Obligations.JumpsReachTheirTargets : Prop :=
  ∀ (lo hi : Byte) (s : State),
    opcodeOf (.jmpAbs lo hi) = 0x4C#8 ∧ opcodeOf (.jmpInd lo hi) = 0x6C#8 ∧ opcodeOf (.jmpIax lo hi) = 0x7C#8 ∧
    Completes (.jmpAbs lo hi) s s.r (hi ++ lo) s.mem 3 ∧
    (let p : Word := hi ++ lo
     Completes (.jmpInd lo hi) s s.r (s.memRead (p + 1#16) ++ s.memRead p) s.mem 6) ∧
    (let p : Word := (hi ++ lo) + s.r.x.setWidth 16
     Completes (.jmpIax lo hi) s s.r (s.memRead (p + 1#16) ++ s.memRead p) s.mem 6)

/-- JSR: `ret <- PC0 +16 2; push(hi(ret)); push(lo(ret)); PC <- op2:op1`, where `op2`, the high byte of the target, is read
after the pushes; it is the instruction's own byte wherever that byte is not one the pushes stored to. Only the two stack
bytes can change (R295). -/
def Obligations.JsrPushesTheReturnAddress : Prop :=
  ∀ (lo hi : Byte) (s : State),
    let ret := s.after 2
    let a1 : Word := 0x01#8 ++ s.r.sp
    let a2 : Word := 0x01#8 ++ (s.r.sp - 1#8)
    let m := mirrorAddr s.cfg.memcfg
    let mem := storeByte s.cfg.memcfg (storeByte s.cfg.memcfg s.mem a1 (hiByte ret)) a2 (loByte ret)
    opcodeOf (.jsr lo hi) = 0x20#8 ∧
    Completes (.jsr lo hi) s { s.r with sp := s.r.sp - 2#8 } (readByte s.cfg.memcfg mem ret ++ lo) mem 6 ∧
    (m ret ≠ m a1 → m ret ≠ m a2 → s.memRead ret = hi →
      Completes (.jsr lo hi) s { s.r with sp := s.r.sp - 2#8 } (hi ++ lo) mem 6) ∧
    (∀ a, m a ≠ m a1 → m a ≠ m a2 → readByte s.cfg.memcfg mem a = s.memRead a)

/-- RTS: `lo <- pull(); hi <- pull(); PC <- (hi:lo) +16 1`, S up by two modulo 256 (R296). -/
def Obligations.RtsPullsTheReturnAddress : Prop :=
  ∀ s : State, opcodeOf .rts = 0x60#8 ∧
    Completes .rts s { s.r with sp := s.r.sp + 2#8 }
      ((s.memRead (0x01#8 ++ (s.r.sp + 2#8)) ++ s.memRead (0x01#8 ++ (s.r.sp + 1#8))) + 1#16) s.mem 6

/-- A subroutine returns: where the two stack bytes are distinct RAM bytes, JSR and then RTS leave all registers, flags and
S as they were and PC at the instruction after the JSR (R295, R296, R297). -/
def Obligations.JsrThenRtsReturns : Prop :=
  ∀ (lo hi : Byte) (s : State),
    let a1 : Word := 0x01#8 ++ s.r.sp
    let a2 : Word := 0x01#8 ++ (s.r.sp - 1#8)
    regionKind s.cfg.memcfg a1 = some .ram → regionKind s.cfg.memcfg a2 = some .ram →
    mirrorAddr s.cfg.memcfg a1 ≠ mirrorAddr s.cfg.memcfg a2 →
    ∃ t u, exec (.jsr lo hi) s = .next t ∧ exec .rts t = .next u ∧ u.r = s.r ∧ u.pc = s.after 3 ∧ u.cyc = s.cyc + 12

/-! ## Flags, traps, wait and stop -/

/-- CLC, SEC, CLD, SED, CLI, SEI, CLV write exactly one flag each, and NOP nothing (46_flags_system.md R311 to R317,
R320). -/
def Obligations.FlagInstructionsWriteOneFlag : Prop :=
  ImpForm 0x18#8 .clc (fun r => { r with p := { r.p with c := false } }) ∧
  ImpForm 0x38#8 .sec (fun r => { r with p := { r.p with c := true } }) ∧
  ImpForm 0xD8#8 .cld (fun r => { r with p := { r.p with d := false } }) ∧
  ImpForm 0xF8#8 .sed (fun r => { r with p := { r.p with d := true } }) ∧
  ImpForm 0x58#8 .cli (fun r => { r with p := { r.p with i := false } }) ∧
  ImpForm 0x78#8 .sei (fun r => { r with p := { r.p with i := true } }) ∧
  ImpForm 0xB8#8 .clv (fun r => { r with p := { r.p with v := false } }) ∧
  ImpForm 0xEA#8 .nop (fun r => r)

/-- BRK takes the trap: PC0 + 2 is pushed, high byte first, then P with bits 5 and 4 as 1 and D and I as before; I is set
and D cleared; PC comes from $FFFE/$FFFF, read after the pushes; `svc` stays. Only the three stack bytes can change
(R318; 60_exceptions.md R350). -/
def Obligations.BrkTakesTheTrap : Prop :=
  ∀ s : State,
    let c := s.cfg.memcfg
    let ret := s.after 2
    let a1 : Word := 0x01#8 ++ s.r.sp
    let a2 : Word := 0x01#8 ++ (s.r.sp - 1#8)
    let a3 : Word := 0x01#8 ++ (s.r.sp - 2#8)
    let mem := storeByte c (storeByte c (storeByte c s.mem a1 (hiByte ret)) a2 (loByte ret)) a3 (packP s.r.p true)
    opcodeOf .brk = 0x00#8 ∧
    Completes .brk s { s.r with sp := s.r.sp - 3#8, p := { s.r.p with i := true, d := false } }
      (readByte c mem 0xFFFF#16 ++ readByte c mem 0xFFFE#16) mem 7 ∧
    (∀ a, mirrorAddr c a ≠ mirrorAddr c a1 → mirrorAddr c a ≠ mirrorAddr c a2 → mirrorAddr c a ≠ mirrorAddr c a3 →
      readByte c mem a = s.memRead a)

/-- RTI: P is pulled, bits 5 and 4 discarded, then PC low, then PC high, with no increment; S up by three modulo 256;
`svc <- Running`; memory stays (R319; 60_exceptions.md R352). -/
def Obligations.RtiPullsFlagsAndPc : Prop :=
  ∀ s : State,
    let v := s.memRead (0x01#8 ++ (s.r.sp + 1#8))
    opcodeOf .rti = 0x40#8 ∧
    ∃ t, exec .rti s = .next t ∧
      Leaves s t
        { s.r with
          sp := s.r.sp + 3#8
          p := { n := v.getLsbD 7, v := v.getLsbD 6, d := v.getLsbD 3, i := v.getLsbD 2, z := v.getLsbD 1,
                 c := v.getLsbD 0 } }
        (s.memRead (0x01#8 ++ (s.r.sp + 3#8)) ++ s.memRead (0x01#8 ++ (s.r.sp + 2#8))) s.mem s.run .running s.host 6 ∧
      Emits s t (s.trace .rti)

/-- A trap returns: where the three stack bytes are distinct RAM bytes, RTI after BRK resumes at PC0 + 2 and after an
interrupt sequence at the interrupted PC, with all registers and flags, D and I among them, as they were before
(60_exceptions.md R350, R352; 45_branch_jump.md R297). -/
def Obligations.RtiReturnsFromTraps : Prop :=
  ∀ s : State,
    let c := s.cfg.memcfg
    let a1 : Word := 0x01#8 ++ s.r.sp
    let a2 : Word := 0x01#8 ++ (s.r.sp - 1#8)
    let a3 : Word := 0x01#8 ++ (s.r.sp - 2#8)
    regionKind c a1 = some .ram → regionKind c a2 = some .ram → regionKind c a3 = some .ram →
    mirrorAddr c a1 ≠ mirrorAddr c a2 → mirrorAddr c a1 ≠ mirrorAddr c a3 → mirrorAddr c a2 ≠ mirrorAddr c a3 →
    (∃ t u, exec .brk s = .next t ∧ exec .rti t = .next u ∧ u.r = s.r ∧ u.pc = s.after 2 ∧ u.svc = .running) ∧
    (∀ k, ∃ u, exec .rti (runInterrupt k s) = .next u ∧ u.r = s.r ∧ u.pc = s.pc ∧ u.svc = .running)

/-- WAI and STP: after 3 cycles `run` is `Waiting` or `Stopped` and PC is PC0 + 1; nothing else changes; without WAISTP in
CAPS the opcodes are refused by the decoder (R321, R322). -/
def Obligations.WaiStpChangeRunAlone : Prop :=
  opcodeOf .wai = 0xCB#8 ∧ opcodeOf .stp = 0xDB#8 ∧
  (∀ s : State,
    (∃ t, exec .wai s = .next t ∧ Leaves s t s.r (s.after 1) s.mem .waiting s.svc s.host 3 ∧
      Emits s t (s.trace .wai)) ∧
    (∃ t, exec .stp s = .next t ∧ Leaves s t s.r (s.after 1) s.mem .stopped s.svc s.host 3 ∧
      Emits s t (s.trace .stp))) ∧
  (∀ (caps : Caps) (rest : List Byte), caps.waistp = false →
    decode caps (encode .wai ++ rest) = .rejected (.groupAbsent 0xCB#8 .waistp) ∧
    decode caps (encode .stp ++ rest) = .rejected (.groupAbsent 0xDB#8 .waistp))

/-! ## Timing -/

/-- THE CYCLE COUNTS of R152, for all 212 instructions in every state: `exec` answers a next state, `cyc` has grown by the
count of the instruction's template with its `+p`, `+t` and `+d`, and one BusCycle was emitted for every cycle; an
interrupt sequence takes 7. -/
def Obligations.CycleCountsMatchTheTable : Prop :=
  ∀ (i : Instr) (s : State),
    (∃ t, exec i s = .next t ∧ t.cyc = s.cyc + instrCycles i s ∧ t.bus.length = s.bus.length + instrCycles i s) ∧
    (∀ k, (runInterrupt k s).cyc = s.cyc + 7 ∧ (runInterrupt k s).bus.length = s.bus.length + 7)

/-- THE BUS TRACES: what every instruction and every interrupt sequence emits, cycle by cycle, with address, data,
direction, `sync` and `vp`, is the list its template's rows give (40_addressing_and_bus_cycles.md R118 to R151;
60_exceptions.md R349); a dummy cycle has the address its parameter DA1 to DA22 gives it in the state of the core at that
cycle, which is the default of R114, a given one, or a free value (log 6). -/
def Obligations.BusTracesMatchTheTemplates : Prop :=
  (∀ (i : Instr) (s t : State), exec i s = .next t → Emits s t (s.trace i)) ∧
  (∀ (k : IntKind) (s : State), Emits s (runInterrupt k s) (s.traceInterrupt k))

/-! ## The step -/

/-- A STEP RUNS THE DECODED INSTRUCTION: at a boundary where no interrupt is recognised, when the bytes at PC are those of a
well-formed instruction `i`, the step is `exec i` on the state with the inputs of the tick latched, which changes
`nmi_pending`, `irq_line` and the inputs to come alone (R111; 60_exceptions.md R344, R346). That the inputs to come are a
list in the state is the model's (log 9). -/
def Obligations.StepRunsDecodedInstruction : Prop :=
  ∀ (s : State) (i : Instr), s.atBoundary → s.nmiDue = false → s.irqDue = false → i.wellFormed s.cfg.caps = true →
    s.holds i →
    step s = exec i s.latchInputs ∧
    s.latchInputs = { s with
      nmiPending := s.host.latch.nmiPending, irqLine := s.host.latch.irqLine, inputs := s.host.latch.inputs }

/-- DecodeError: at such a boundary, an opcode at PC whose slot is the placeholder makes one fetch cycle, and then
`run = Faulted(DecodeError(op, PC0))`, PC = PC0 + 1, `cyc` one more, and the registers, the flags, memory and `svc` as
before; from there no step and no tick is defined (60_exceptions.md R341; 30_encoding.md R90), which in the model is a
fault (log 11). -/
def Obligations.PlaceholderOpcodeFaults : Prop :=
  ∀ s : State, s.atBoundary → s.nmiDue = false → s.irqDue = false →
    placeholderOpcode s.cfg.caps (s.memRead s.pc) = true →
    ∃ t, step s = .next t ∧ t.run = .faulted (s.memRead s.pc) s.pc ∧ t.pc = s.pc + 1#16 ∧ t.r = s.r ∧ t.mem = s.mem ∧
      t.svc = s.svc ∧ t.cfg = s.cfg ∧ t.host = s.host.latch ∧ t.cyc = s.cyc + 1 ∧
      t.bus = { cyc := s.cyc, addr := s.pc, data := s.memRead s.pc, dir := .read, sync := true, vp := false } :: s.bus ∧
      step t = .fault (.decodeError (s.memRead s.pc) s.pc) ∧ tick t = .fault (.decodeError (s.memRead s.pc) s.pc)

/-- NMI: at a boundary, or in `Waiting`, whatever I is and whether or not IRQ is asserted, a pending NMI is taken: 7 cycles
with the bus trace of T_INT, PC and P (B = 0) pushed, I set, D cleared, PC from $FFFA/$FFFB, `svc <- ServicingNMI`, and
`nmi_pending` cleared in the first cycle, after its latching (60_exceptions.md R346, R348, R349, R350; the inputs as log 9
has them). -/
def Obligations.NmiIsTaken : Prop :=
  ∀ s : State, (s.atBoundary ∨ s.run = .waiting) → s.nmiDue = true →
    let c := s.cfg.memcfg
    let mem := pushBytes c s.mem s.r.sp [hiByte s.pc, loByte s.pc, packP s.r.p false]
    ∃ t, step s = .next t ∧
      Leaves s t { s.r with sp := s.r.sp - 3#8, p := { s.r.p with i := true, d := false } }
        (readByte c mem 0xFFFB#16 ++ readByte c mem 0xFFFA#16) mem .running .servicingNmi
        { s.host.latch with nmiPending := false } 7 ∧
      Emits s t ((s.latchInputs.withRun .running).traceInterrupt .nmi)

/-- IRQ: with no NMI due, an asserted IRQ line with I = 0 is taken the same way through $FFFE/$FFFF, with
`svc <- ServicingIRQ` (60_exceptions.md R346, R347, R349, R350; the inputs as log 9 has them). -/
def Obligations.IrqIsTaken : Prop :=
  ∀ s : State, (s.atBoundary ∨ s.run = .waiting) → s.nmiDue = false → s.irqDue = true →
    let c := s.cfg.memcfg
    let mem := pushBytes c s.mem s.r.sp [hiByte s.pc, loByte s.pc, packP s.r.p false]
    ∃ t, step s = .next t ∧
      Leaves s t { s.r with sp := s.r.sp - 3#8, p := { s.r.p with i := true, d := false } }
        (readByte c mem 0xFFFF#16 ++ readByte c mem 0xFFFE#16) mem .running .servicingIrq s.host.latch 7 ∧
      Emits s t ((s.latchInputs.withRun .running).traceInterrupt .irq)

/-- `Waiting`: without NMI and IRQ the step is one idle cycle, a dummy read at PC, and nothing but `cyc` and the latched
inputs changes; an IRQ with I = 1 resumes with the instruction at PC and takes no vector (60_exceptions.md R360). The
other two wakings are NmiIsTaken and IrqIsTaken. The inputs are as log 9 has them. -/
def Obligations.WaitingIdlesAndWakes : Prop :=
  ∀ s : State, s.run = .waiting → s.nmiDue = false →
    (s.host.latch.irqLine = false →
      ∃ t, step s = .next t ∧ t.run = .waiting ∧ t.r = s.r ∧ t.pc = s.pc ∧ t.mem = s.mem ∧ t.svc = s.svc ∧
        t.t = s.t ∧ t.seq = s.seq ∧ t.lat = s.lat ∧ t.cfg = s.cfg ∧ t.host = s.host.latch ∧ t.cyc = s.cyc + 1 ∧
        Emits s t [s.rdDummy (s.idling 0) .da21 s.pc]) ∧
    (∀ i : Instr, s.host.latch.irqLine = true → s.r.p.i = true → i.wellFormed s.cfg.caps = true → s.holds i →
      step s = exec i (s.latchInputs.withRun .running))

/-- `Stopped` is left by no step: `n` steps are `n` idle cycles, each a dummy read at PC, in which only `cyc`, the
records and the latched inputs change, whatever inputs come (60_exceptions.md R361; 10_state.md R34; that these ticks go
on is log 20). -/
def Obligations.StoppedIdlesForEver : Prop :=
  ∀ (n : Nat) (s : State), s.run = .stopped →
    ∃ t, steps n s = .next t ∧ t.run = .stopped ∧ t.r = s.r ∧ t.pc = s.pc ∧ t.mem = s.mem ∧ t.svc = s.svc ∧ t.t = s.t ∧
      t.seq = s.seq ∧ t.lat = s.lat ∧ t.cfg = s.cfg ∧ t.host = s.host.latches n ∧ t.cyc = s.cyc + n ∧
      Emits s t ((List.range n).map (fun k => s.rdDummy (s.idling k) .da21 s.pc))

/-- EQUIVALENCE OF STEP AND TICK: from every state, mid-instruction ones among them, ticking to the next instruction
boundary gives exactly what one step gives (00_scope.md R7). -/
def Obligations.TicksComposeToTheStep : Prop :=
  ∀ s : State, ticksToBoundary 8 s = step s

/-- Every tick emits exactly one BusCycle, numbered by `cyc`, which grows by one; it latches the inputs: `irq_line` is the
host's level, the list of inputs is one shorter, and `nmi_pending` is set by an edge and stays, unless this tick is the
first of an NMI sequence (R110; 10_state.md R36; 60_exceptions.md R344, R345; the list is the model's, log 9). -/
def Obligations.EveryTickEmitsAndLatches : Prop :=
  ∀ s t : State, tick s = .next t →
    (∃ b, t.bus = b :: s.bus ∧ b.cyc = s.cyc) ∧ t.cyc = s.cyc + 1 ∧ t.irqLine = s.host.latch.irqLine ∧
    t.inputs = s.host.latch.inputs ∧
    (t.nmiPending = s.host.latch.nmiPending ∨ (t.seq = .int .nmi ∧ t.t = 2 ∧ t.nmiPending = false))

/-! ## Whole-machine rules -/

/-- THE INVARIANT `State.Inv` is kept by every step, of every kind, from every state that has it: memory in canonical form,
instruction boundary, one BusCycle for every cycle numbered without a gap, signal flags where R112 allows them. The
canonical form of memory is the model's (log 3). -/
def Obligations.EveryStepKeepsTheInvariant : Prop :=
  ∀ s t : State, s.Inv → step s = .next t → t.Inv

/-- The invariant, the model's own `State.Inv` (log 3), holds after reset, whatever the parameters, the image in canonical
form, and INIT. -/
def Obligations.ResetHasTheInvariant : Prop :=
  (∀ (cfg : Config) (image : Memory) (init : Init), image.wf = true → (State.resetWith cfg image init).Inv) ∧
  State.reset.Inv

/-- What reset leaves, for every image and every INIT, which is what the spec leaves unspecified (10_state.md R37;
70_reset_and_hazards.md R380). Two clauses are the model's choice: that `irq_line` is 0, the default R37 gives beside the
host's level (log 18, DEDUCED), and that the list of BusCycles in the state is empty (log 15, DEDUCED). -/
def Obligations.ResetLeavesTheListedValues : Prop :=
  ∀ (cfg : Config) (image : Memory) (init : Init),
    let s := State.resetWith cfg image init
    s.r.a = init.a ∧ s.r.x = init.x ∧ s.r.y = init.y ∧ s.r.sp = init.s ∧ s.r.p.n = init.n ∧ s.r.p.v = init.v ∧
    s.r.p.z = init.z ∧ s.r.p.c = init.c ∧ s.r.p.i = true ∧ s.r.p.d = false ∧
    s.pc = s.memRead 0xFFFD#16 ++ s.memRead 0xFFFC#16 ∧ s.mem = image ∧ s.nmiPending = false ∧ s.irqLine = false ∧
    s.run = .running ∧ s.svc = .running ∧ s.t = 1 ∧ s.seq = .instr ∧ s.cyc = 0 ∧ s.bus = [] ∧ s.cfg = cfg

/-- ROM AND UNMAPPED SPACE ARE NEVER CHANGED by any step of any kind, and neither is the configuration: whatever runs, an
address that does not name a RAM byte reads as before, and array bytes to which no RAM address is mirrored stay
(20_memory.md R56, R69; 10_state.md R38). -/
def Obligations.OnlyRamChanges : Prop :=
  ∀ s t : State, step s = .next t →
    t.cfg = s.cfg ∧
    (∀ a, regionKind s.cfg.memcfg a ≠ some .ram → t.memRead a = s.memRead a) ∧
    (∀ k, (∀ a, regionKind s.cfg.memcfg a = some .ram → (mirrorAddr s.cfg.memcfg a).toNat ≠ k) →
      t.mem.read k = s.mem.read k)

/-- WHICH INSTRUCTIONS WRITE WHICH FLAG, by opcode: D only SED, CLD, PLP, RTI, BRK; I only SEI, CLI, PLP, RTI, BRK; V only
ADC, SBC, BIT on memory, CLV, PLP, RTI; and "TXS, the stores, the pushes, JMP, JSR, RTS, the branches, NOP, RMB, SMB, BBR,
BBS, WAI and STP write no flag" (10_state.md R27). -/
def Obligations.FlagsChangeOnlyByTheListedInstructions : Prop :=
  ∀ (i : Instr) (s t : State), exec i s = .next t →
    (t.r.p.d ≠ s.r.p.d → opcodeOf i ∈ [0xF8#8, 0xD8#8, 0x28#8, 0x40#8, 0x00#8]) ∧
    (t.r.p.i ≠ s.r.p.i → opcodeOf i ∈ [0x78#8, 0x58#8, 0x28#8, 0x40#8, 0x00#8]) ∧
    (t.r.p.v ≠ s.r.p.v → opcodeOf i ∈
      [0x69#8, 0x65#8, 0x75#8, 0x6D#8, 0x7D#8, 0x79#8, 0x61#8, 0x71#8, 0x72#8] ++
      [0xE9#8, 0xE5#8, 0xF5#8, 0xED#8, 0xFD#8, 0xF9#8, 0xE1#8, 0xF1#8, 0xF2#8] ++
      [0x24#8, 0x34#8, 0x2C#8, 0x3C#8, 0xB8#8, 0x28#8, 0x40#8]) ∧
    (t.r.p ≠ s.r.p → i.template ∉ [Template.zpW, Template.zpiW, Template.absW, Template.abiW, Template.izxW,
      Template.izyW, Template.izpW, Template.push, Template.jmpAbs, Template.jmpInd, Template.jmpIax, Template.jsr,
      Template.rts, Template.rel, Template.zprel, Template.halt] ∧ opcodeOf i ≠ 0x9A#8 ∧ opcodeOf i ≠ 0xEA#8 ∧
      opcodeOf i &&& 0x0F#8 ≠ 0x07#8)

/-- WHAT ELSE CHANGES WHAT: X only by LDX, PLX, TAX, TSX, INX, DEX; Y only by LDY, PLY, TAY, INY, DEY; S only by TXS, the
pushes and pulls, JSR, RTS, RTI and BRK; memory only by stores, read-modify-writes, pushes, JSR and BRK; `run` only by WAI
and STP, `svc` only by RTI, to `Running` (10_state.md R21, R22, R23, R35; 20_memory.md R57; 60_exceptions.md R357). -/
def Obligations.StateChangesOnlyByTheListedInstructions : Prop :=
  ∀ (i : Instr) (s t : State), exec i s = .next t →
    (t.r.x ≠ s.r.x → opcodeOf i ∈ [0xA2#8, 0xA6#8, 0xB6#8, 0xAE#8, 0xBE#8, 0xFA#8, 0xAA#8, 0xBA#8, 0xE8#8, 0xCA#8]) ∧
    (t.r.y ≠ s.r.y → opcodeOf i ∈ [0xA0#8, 0xA4#8, 0xB4#8, 0xAC#8, 0xBC#8, 0x7A#8, 0xA8#8, 0xC8#8, 0x88#8]) ∧
    (t.r.sp ≠ s.r.sp → opcodeOf i = 0x9A#8 ∨
      i.template ∈ [Template.push, Template.pull, Template.jsr, Template.rts, Template.rti, Template.brk]) ∧
    (t.mem ≠ s.mem → i.template ∈ [Template.zpW, Template.zpiW, Template.absW, Template.abiW, Template.izxW,
      Template.izyW, Template.izpW, Template.zpM, Template.zpxM, Template.absM, Template.abxM, Template.abxM7,
      Template.push, Template.jsr, Template.brk]) ∧
    (t.run ≠ s.run → (i = .wai ∧ t.run = .waiting) ∨ (i = .stp ∧ t.run = .stopped)) ∧
    (t.svc ≠ s.svc → i = .rti ∧ t.svc = .running)

/-- NO FLOW FROM WHAT IS DEAD: two states that agree on the registers, PC, memory, the host's inputs, `run`, CAPS and MEMCFG
step to states that agree on the registers, PC, memory, inputs and `run`, however they differ in `svc`, in the latches, in
`cyc`, in the records and in the parameters DA1 to DA22; or both fault alike (60_exceptions.md R358;
10_state.md R32, R36; 40_addressing_and_bus_cycles.md R114; the model's fields as logs 6, 9 and 12 have them). -/
def Obligations.DeadStateHasNoInfluence : Prop :=
  ∀ s s' : State, Agree s s' →
    (∀ t, step s = .next t → ∃ t', step s' = .next t' ∧ t.r = t'.r ∧ t.pc = t'.pc ∧ t.mem = t'.mem ∧ t.host = t'.host ∧
      t.run = t'.run) ∧
    (∀ f, step s = .fault f → step s' = .fault f)

end
end

