-- ==== Sys2Proof/Laws/Memory.lean ====
section
/-! SUPPORT. The laws of the backing array and of the memory policy: read after write, and that every operation keeps the
canonical form (20_memory.md R51 to R56). -/

namespace Sys2Proof.Machine

@[simp] theorem Memory.read_nil (a : Nat) : Memory.read [] a = Memory.unlisted := rfl

theorem Memory.read_erase (m : Memory) (a b : Nat) :
    (m.erase a).read b = if b = a then Memory.unlisted else m.read b := by
  induction m with
  | nil => simp [Memory.erase]
  | cons c m ih =>
    simp only [Memory.erase, Memory.read]
    split
    · rw [ih]; split
      · rfl
      · rw [if_neg (by omega)]
    · simp only [Memory.read]
      split
      · rw [if_neg (by omega)]
      · exact ih

theorem Memory.read_place {m : Memory} {a : Nat} (h : ∀ c ∈ m, c.1 ≠ a) (v : Byte) (b : Nat) :
    (m.place a v).read b = if b = a then v else m.read b := by
  induction m with
  | nil => simp [Memory.place, Memory.read, eq_comm]
  | cons c m ih =>
    simp only [Memory.place]
    split
    · simp only [Memory.read, eq_comm]
    · simp only [Memory.read]
      have hc : c.1 ≠ a := h c (by simp)
      rw [ih (fun d hd => h d (by simp [hd]))]
      split
      · rw [if_neg (by omega)]
      · rfl

theorem Memory.mem_erase {m : Memory} {a : Nat} {c : Host.Cell} (h : c ∈ m.erase a) : c ∈ m ∧ c.1 ≠ a := by
  induction m with
  | nil => simp [Memory.erase] at h
  | cons d m ih =>
    simp only [Memory.erase] at h
    split at h
    · exact ⟨by simp [(ih h).1], (ih h).2⟩
    · rename_i hd
      rcases List.mem_cons.mp h with h | h
      · subst h; exact ⟨by simp, hd⟩
      · exact ⟨by simp [(ih h).1], (ih h).2⟩

/-- Read after write: the byte written, and every other byte as before. -/
theorem Memory.read_write (m : Memory) (a b : Nat) (v : Byte) :
    (m.write a v).read b = if b = a then v else m.read b := by
  unfold Memory.write
  split
  · rename_i h; rw [Memory.read_erase, h]
  · rw [Memory.read_place (fun c hc => (Memory.mem_erase hc).2), Memory.read_erase]
    split <;> rfl

/-! The canonical form. -/

theorem Memory.wf_cons (c : Host.Cell) (m : Memory) :
    Memory.wf (c :: m) = true ↔
      c.2 ≠ Memory.unlisted ∧ c.1 < 0x10000 ∧ (∀ d ∈ m, c.1 < d.1) ∧ Memory.wf m = true := by
  simp [Memory.wf, and_assoc]

theorem Memory.wf_erase {m : Memory} (h : m.wf = true) (a : Nat) : (m.erase a).wf = true := by
  induction m with
  | nil => rfl
  | cons c m ih =>
    obtain ⟨h1, h2, h3, h4⟩ := (Memory.wf_cons c m).mp h
    simp only [Memory.erase]
    split
    · exact ih h4
    · exact (Memory.wf_cons _ _).mpr ⟨h1, h2, fun d hd => h3 d (Memory.mem_erase hd).1, ih h4⟩

theorem Memory.mem_place {m : Memory} {a : Nat} {v : Byte} {c : Host.Cell} (h : c ∈ m.place a v) :
    c = (a, v) ∨ c ∈ m := by
  induction m with
  | nil => simpa [Memory.place] using h
  | cons d m ih =>
    simp only [Memory.place] at h
    split at h
    · simpa using h
    · rcases List.mem_cons.mp h with h | h
      · right; simp [h]
      · rcases ih h with h | h
        · exact .inl h
        · right; simp [h]

theorem Memory.wf_place {m : Memory} {a : Nat} {v : Byte} (h : m.wf = true) (ha : a < 0x10000)
    (hv : v ≠ Memory.unlisted) (hn : ∀ c ∈ m, c.1 ≠ a) : (m.place a v).wf = true := by
  induction m with
  | nil => exact (Memory.wf_cons _ _).mpr ⟨hv, ha, by simp, rfl⟩
  | cons c m ih =>
    obtain ⟨h1, h2, h3, h4⟩ := (Memory.wf_cons c m).mp h
    simp only [Memory.place]
    split
    · rename_i hlt
      refine (Memory.wf_cons _ _).mpr ⟨hv, ha, fun d hd => ?_, h⟩
      rcases List.mem_cons.mp hd with hd | hd
      · subst hd; exact hlt
      · exact Nat.lt_trans hlt (h3 d hd)
    · rename_i hlt
      have hc : c.1 ≠ a := hn c (by simp)
      refine (Memory.wf_cons _ _).mpr ⟨h1, h2, fun d hd => ?_, ih h4 (fun d hd => hn d (by simp [hd]))⟩
      rcases Memory.mem_place hd with hd | hd
      · subst hd; show c.1 < a; omega
      · exact h3 d hd

/-- Every write inside the address space keeps the canonical form. -/
theorem Memory.wf_write {m : Memory} (h : m.wf = true) {a : Nat} (ha : a < 0x10000) (v : Byte) :
    (m.write a v).wf = true := by
  unfold Memory.write
  split
  · exact Memory.wf_erase h a
  · rename_i hv
    exact Memory.wf_place (Memory.wf_erase h a) ha hv (fun c hc => (Memory.mem_erase hc).2)

/-- Loading an image keeps the canonical form (20_memory.md R53). -/
theorem Memory.wf_load {m : Memory} (h : m.wf = true) (a : Word) (bs : List Byte) : (m.load a bs).wf = true := by
  induction bs generalizing m a with
  | nil => exact h
  | cons b bs ih => exact ih (Memory.wf_write h a.isLt b) _

/-- A store under the memory policy keeps the canonical form (20_memory.md R56). -/
theorem wf_storeByte {m : Memory} (h : m.wf = true) (c : MemCfg) (a : Word) (v : Byte) :
    (storeByte c m a v).wf = true := by
  unfold storeByte
  split
  · exact Memory.wf_write h (mirrorAddr c a).isLt v
  · exact h
  · exact h

/-- The array after a store: the byte at the mirrored address where it lies in RAM, every other byte as before
(20_memory.md R56). -/
theorem read_storeByte (c : MemCfg) (m : Memory) (a : Word) (v : Byte) (k : Nat) :
    (storeByte c m a v).read k =
      if regionKind c a = some .ram ∧ k = (mirrorAddr c a).toNat then v else m.read k := by
  unfold storeByte
  split <;> rename_i h <;> simp [h, Memory.read_write]

/-- What a read returns after a store: the byte stored where both addresses name the same RAM byte, else what it
returned before (20_memory.md R54, R65). -/
theorem readByte_storeByte (c : MemCfg) (m : Memory) (a b : Word) (v : Byte) :
    readByte c (storeByte c m a v) b =
      if regionKind c a = some .ram ∧ mirrorAddr c b = mirrorAddr c a then v else readByte c m b := by
  unfold readByte
  by_cases hb : mirrorAddr c b = mirrorAddr c a
  · have hk : regionKind c b = regionKind c a := by simp [regionKind, hb]
    rw [hk]
    split <;> rename_i h
    · rw [read_storeByte, hb]; simp
    · simp [h]
  · have hn : (mirrorAddr c b).toNat ≠ (mirrorAddr c a).toNat := fun h => hb (BitVec.eq_of_toNat_eq h)
    split
    · rw [read_storeByte]; simp [hb, hn]
    · simp [hb]

end Sys2Proof.Machine
end

