-- ==== Sys2Proof/Laws/State.lean ====
section
/-! SUPPORT. What each named update of State leaves in each field: one lemma for a field and an update. -/

namespace Sys2Proof.Machine

@[simp] theorem State.withR_r (s : State) (v : Regs) : (s.withR v).r = v := rfl
@[simp] theorem State.withR_pc (s : State) (v : Regs) : (s.withR v).pc = s.pc := rfl
@[simp] theorem State.withR_mem (s : State) (v : Regs) : (s.withR v).mem = s.mem := rfl
@[simp] theorem State.withR_nmiPending (s : State) (v : Regs) : (s.withR v).nmiPending = s.nmiPending := rfl
@[simp] theorem State.withR_irqLine (s : State) (v : Regs) : (s.withR v).irqLine = s.irqLine := rfl
@[simp] theorem State.withR_svc (s : State) (v : Regs) : (s.withR v).svc = s.svc := rfl
@[simp] theorem State.withR_run (s : State) (v : Regs) : (s.withR v).run = s.run := rfl
@[simp] theorem State.withR_t (s : State) (v : Regs) : (s.withR v).t = s.t := rfl
@[simp] theorem State.withR_seq (s : State) (v : Regs) : (s.withR v).seq = s.seq := rfl
@[simp] theorem State.withR_lat (s : State) (v : Regs) : (s.withR v).lat = s.lat := rfl
@[simp] theorem State.withR_cyc (s : State) (v : Regs) : (s.withR v).cyc = s.cyc := rfl
@[simp] theorem State.withR_bus (s : State) (v : Regs) : (s.withR v).bus = s.bus := rfl
@[simp] theorem State.withR_events (s : State) (v : Regs) : (s.withR v).events = s.events := rfl
@[simp] theorem State.withR_inputs (s : State) (v : Regs) : (s.withR v).inputs = s.inputs := rfl
@[simp] theorem State.withR_cfg (s : State) (v : Regs) : (s.withR v).cfg = s.cfg := rfl

@[simp] theorem State.withPc_r (s : State) (v : Word) : (s.withPc v).r = s.r := rfl
@[simp] theorem State.withPc_pc (s : State) (v : Word) : (s.withPc v).pc = v := rfl
@[simp] theorem State.withPc_mem (s : State) (v : Word) : (s.withPc v).mem = s.mem := rfl
@[simp] theorem State.withPc_nmiPending (s : State) (v : Word) : (s.withPc v).nmiPending = s.nmiPending := rfl
@[simp] theorem State.withPc_irqLine (s : State) (v : Word) : (s.withPc v).irqLine = s.irqLine := rfl
@[simp] theorem State.withPc_svc (s : State) (v : Word) : (s.withPc v).svc = s.svc := rfl
@[simp] theorem State.withPc_run (s : State) (v : Word) : (s.withPc v).run = s.run := rfl
@[simp] theorem State.withPc_t (s : State) (v : Word) : (s.withPc v).t = s.t := rfl
@[simp] theorem State.withPc_seq (s : State) (v : Word) : (s.withPc v).seq = s.seq := rfl
@[simp] theorem State.withPc_lat (s : State) (v : Word) : (s.withPc v).lat = s.lat := rfl
@[simp] theorem State.withPc_cyc (s : State) (v : Word) : (s.withPc v).cyc = s.cyc := rfl
@[simp] theorem State.withPc_bus (s : State) (v : Word) : (s.withPc v).bus = s.bus := rfl
@[simp] theorem State.withPc_events (s : State) (v : Word) : (s.withPc v).events = s.events := rfl
@[simp] theorem State.withPc_inputs (s : State) (v : Word) : (s.withPc v).inputs = s.inputs := rfl
@[simp] theorem State.withPc_cfg (s : State) (v : Word) : (s.withPc v).cfg = s.cfg := rfl

@[simp] theorem State.withMem_r (s : State) (v : Memory) : (s.withMem v).r = s.r := rfl
@[simp] theorem State.withMem_pc (s : State) (v : Memory) : (s.withMem v).pc = s.pc := rfl
@[simp] theorem State.withMem_mem (s : State) (v : Memory) : (s.withMem v).mem = v := rfl
@[simp] theorem State.withMem_nmiPending (s : State) (v : Memory) : (s.withMem v).nmiPending = s.nmiPending := rfl
@[simp] theorem State.withMem_irqLine (s : State) (v : Memory) : (s.withMem v).irqLine = s.irqLine := rfl
@[simp] theorem State.withMem_svc (s : State) (v : Memory) : (s.withMem v).svc = s.svc := rfl
@[simp] theorem State.withMem_run (s : State) (v : Memory) : (s.withMem v).run = s.run := rfl
@[simp] theorem State.withMem_t (s : State) (v : Memory) : (s.withMem v).t = s.t := rfl
@[simp] theorem State.withMem_seq (s : State) (v : Memory) : (s.withMem v).seq = s.seq := rfl
@[simp] theorem State.withMem_lat (s : State) (v : Memory) : (s.withMem v).lat = s.lat := rfl
@[simp] theorem State.withMem_cyc (s : State) (v : Memory) : (s.withMem v).cyc = s.cyc := rfl
@[simp] theorem State.withMem_bus (s : State) (v : Memory) : (s.withMem v).bus = s.bus := rfl
@[simp] theorem State.withMem_events (s : State) (v : Memory) : (s.withMem v).events = s.events := rfl
@[simp] theorem State.withMem_inputs (s : State) (v : Memory) : (s.withMem v).inputs = s.inputs := rfl
@[simp] theorem State.withMem_cfg (s : State) (v : Memory) : (s.withMem v).cfg = s.cfg := rfl

@[simp] theorem State.withNmiPending_r (s : State) (v : Bool) : (s.withNmiPending v).r = s.r := rfl
@[simp] theorem State.withNmiPending_pc (s : State) (v : Bool) : (s.withNmiPending v).pc = s.pc := rfl
@[simp] theorem State.withNmiPending_mem (s : State) (v : Bool) : (s.withNmiPending v).mem = s.mem := rfl
@[simp] theorem State.withNmiPending_nmiPending (s : State) (v : Bool) : (s.withNmiPending v).nmiPending = v := rfl
@[simp] theorem State.withNmiPending_irqLine (s : State) (v : Bool) : (s.withNmiPending v).irqLine = s.irqLine := rfl
@[simp] theorem State.withNmiPending_svc (s : State) (v : Bool) : (s.withNmiPending v).svc = s.svc := rfl
@[simp] theorem State.withNmiPending_run (s : State) (v : Bool) : (s.withNmiPending v).run = s.run := rfl
@[simp] theorem State.withNmiPending_t (s : State) (v : Bool) : (s.withNmiPending v).t = s.t := rfl
@[simp] theorem State.withNmiPending_seq (s : State) (v : Bool) : (s.withNmiPending v).seq = s.seq := rfl
@[simp] theorem State.withNmiPending_lat (s : State) (v : Bool) : (s.withNmiPending v).lat = s.lat := rfl
@[simp] theorem State.withNmiPending_cyc (s : State) (v : Bool) : (s.withNmiPending v).cyc = s.cyc := rfl
@[simp] theorem State.withNmiPending_bus (s : State) (v : Bool) : (s.withNmiPending v).bus = s.bus := rfl
@[simp] theorem State.withNmiPending_events (s : State) (v : Bool) : (s.withNmiPending v).events = s.events := rfl
@[simp] theorem State.withNmiPending_inputs (s : State) (v : Bool) : (s.withNmiPending v).inputs = s.inputs := rfl
@[simp] theorem State.withNmiPending_cfg (s : State) (v : Bool) : (s.withNmiPending v).cfg = s.cfg := rfl

@[simp] theorem State.withIrqLine_r (s : State) (v : Bool) : (s.withIrqLine v).r = s.r := rfl
@[simp] theorem State.withIrqLine_pc (s : State) (v : Bool) : (s.withIrqLine v).pc = s.pc := rfl
@[simp] theorem State.withIrqLine_mem (s : State) (v : Bool) : (s.withIrqLine v).mem = s.mem := rfl
@[simp] theorem State.withIrqLine_nmiPending (s : State) (v : Bool) : (s.withIrqLine v).nmiPending = s.nmiPending := rfl
@[simp] theorem State.withIrqLine_irqLine (s : State) (v : Bool) : (s.withIrqLine v).irqLine = v := rfl
@[simp] theorem State.withIrqLine_svc (s : State) (v : Bool) : (s.withIrqLine v).svc = s.svc := rfl
@[simp] theorem State.withIrqLine_run (s : State) (v : Bool) : (s.withIrqLine v).run = s.run := rfl
@[simp] theorem State.withIrqLine_t (s : State) (v : Bool) : (s.withIrqLine v).t = s.t := rfl
@[simp] theorem State.withIrqLine_seq (s : State) (v : Bool) : (s.withIrqLine v).seq = s.seq := rfl
@[simp] theorem State.withIrqLine_lat (s : State) (v : Bool) : (s.withIrqLine v).lat = s.lat := rfl
@[simp] theorem State.withIrqLine_cyc (s : State) (v : Bool) : (s.withIrqLine v).cyc = s.cyc := rfl
@[simp] theorem State.withIrqLine_bus (s : State) (v : Bool) : (s.withIrqLine v).bus = s.bus := rfl
@[simp] theorem State.withIrqLine_events (s : State) (v : Bool) : (s.withIrqLine v).events = s.events := rfl
@[simp] theorem State.withIrqLine_inputs (s : State) (v : Bool) : (s.withIrqLine v).inputs = s.inputs := rfl
@[simp] theorem State.withIrqLine_cfg (s : State) (v : Bool) : (s.withIrqLine v).cfg = s.cfg := rfl

@[simp] theorem State.withSvc_r (s : State) (v : Svc) : (s.withSvc v).r = s.r := rfl
@[simp] theorem State.withSvc_pc (s : State) (v : Svc) : (s.withSvc v).pc = s.pc := rfl
@[simp] theorem State.withSvc_mem (s : State) (v : Svc) : (s.withSvc v).mem = s.mem := rfl
@[simp] theorem State.withSvc_nmiPending (s : State) (v : Svc) : (s.withSvc v).nmiPending = s.nmiPending := rfl
@[simp] theorem State.withSvc_irqLine (s : State) (v : Svc) : (s.withSvc v).irqLine = s.irqLine := rfl
@[simp] theorem State.withSvc_svc (s : State) (v : Svc) : (s.withSvc v).svc = v := rfl
@[simp] theorem State.withSvc_run (s : State) (v : Svc) : (s.withSvc v).run = s.run := rfl
@[simp] theorem State.withSvc_t (s : State) (v : Svc) : (s.withSvc v).t = s.t := rfl
@[simp] theorem State.withSvc_seq (s : State) (v : Svc) : (s.withSvc v).seq = s.seq := rfl
@[simp] theorem State.withSvc_lat (s : State) (v : Svc) : (s.withSvc v).lat = s.lat := rfl
@[simp] theorem State.withSvc_cyc (s : State) (v : Svc) : (s.withSvc v).cyc = s.cyc := rfl
@[simp] theorem State.withSvc_bus (s : State) (v : Svc) : (s.withSvc v).bus = s.bus := rfl
@[simp] theorem State.withSvc_events (s : State) (v : Svc) : (s.withSvc v).events = s.events := rfl
@[simp] theorem State.withSvc_inputs (s : State) (v : Svc) : (s.withSvc v).inputs = s.inputs := rfl
@[simp] theorem State.withSvc_cfg (s : State) (v : Svc) : (s.withSvc v).cfg = s.cfg := rfl

@[simp] theorem State.withRun_r (s : State) (v : RunMode) : (s.withRun v).r = s.r := rfl
@[simp] theorem State.withRun_pc (s : State) (v : RunMode) : (s.withRun v).pc = s.pc := rfl
@[simp] theorem State.withRun_mem (s : State) (v : RunMode) : (s.withRun v).mem = s.mem := rfl
@[simp] theorem State.withRun_nmiPending (s : State) (v : RunMode) : (s.withRun v).nmiPending = s.nmiPending := rfl
@[simp] theorem State.withRun_irqLine (s : State) (v : RunMode) : (s.withRun v).irqLine = s.irqLine := rfl
@[simp] theorem State.withRun_svc (s : State) (v : RunMode) : (s.withRun v).svc = s.svc := rfl
@[simp] theorem State.withRun_run (s : State) (v : RunMode) : (s.withRun v).run = v := rfl
@[simp] theorem State.withRun_t (s : State) (v : RunMode) : (s.withRun v).t = s.t := rfl
@[simp] theorem State.withRun_seq (s : State) (v : RunMode) : (s.withRun v).seq = s.seq := rfl
@[simp] theorem State.withRun_lat (s : State) (v : RunMode) : (s.withRun v).lat = s.lat := rfl
@[simp] theorem State.withRun_cyc (s : State) (v : RunMode) : (s.withRun v).cyc = s.cyc := rfl
@[simp] theorem State.withRun_bus (s : State) (v : RunMode) : (s.withRun v).bus = s.bus := rfl
@[simp] theorem State.withRun_events (s : State) (v : RunMode) : (s.withRun v).events = s.events := rfl
@[simp] theorem State.withRun_inputs (s : State) (v : RunMode) : (s.withRun v).inputs = s.inputs := rfl
@[simp] theorem State.withRun_cfg (s : State) (v : RunMode) : (s.withRun v).cfg = s.cfg := rfl

@[simp] theorem State.withT_r (s : State) (v : Nat) : (s.withT v).r = s.r := rfl
@[simp] theorem State.withT_pc (s : State) (v : Nat) : (s.withT v).pc = s.pc := rfl
@[simp] theorem State.withT_mem (s : State) (v : Nat) : (s.withT v).mem = s.mem := rfl
@[simp] theorem State.withT_nmiPending (s : State) (v : Nat) : (s.withT v).nmiPending = s.nmiPending := rfl
@[simp] theorem State.withT_irqLine (s : State) (v : Nat) : (s.withT v).irqLine = s.irqLine := rfl
@[simp] theorem State.withT_svc (s : State) (v : Nat) : (s.withT v).svc = s.svc := rfl
@[simp] theorem State.withT_run (s : State) (v : Nat) : (s.withT v).run = s.run := rfl
@[simp] theorem State.withT_t (s : State) (v : Nat) : (s.withT v).t = v := rfl
@[simp] theorem State.withT_seq (s : State) (v : Nat) : (s.withT v).seq = s.seq := rfl
@[simp] theorem State.withT_lat (s : State) (v : Nat) : (s.withT v).lat = s.lat := rfl
@[simp] theorem State.withT_cyc (s : State) (v : Nat) : (s.withT v).cyc = s.cyc := rfl
@[simp] theorem State.withT_bus (s : State) (v : Nat) : (s.withT v).bus = s.bus := rfl
@[simp] theorem State.withT_events (s : State) (v : Nat) : (s.withT v).events = s.events := rfl
@[simp] theorem State.withT_inputs (s : State) (v : Nat) : (s.withT v).inputs = s.inputs := rfl
@[simp] theorem State.withT_cfg (s : State) (v : Nat) : (s.withT v).cfg = s.cfg := rfl

@[simp] theorem State.withSeq_r (s : State) (v : Seq) : (s.withSeq v).r = s.r := rfl
@[simp] theorem State.withSeq_pc (s : State) (v : Seq) : (s.withSeq v).pc = s.pc := rfl
@[simp] theorem State.withSeq_mem (s : State) (v : Seq) : (s.withSeq v).mem = s.mem := rfl
@[simp] theorem State.withSeq_nmiPending (s : State) (v : Seq) : (s.withSeq v).nmiPending = s.nmiPending := rfl
@[simp] theorem State.withSeq_irqLine (s : State) (v : Seq) : (s.withSeq v).irqLine = s.irqLine := rfl
@[simp] theorem State.withSeq_svc (s : State) (v : Seq) : (s.withSeq v).svc = s.svc := rfl
@[simp] theorem State.withSeq_run (s : State) (v : Seq) : (s.withSeq v).run = s.run := rfl
@[simp] theorem State.withSeq_t (s : State) (v : Seq) : (s.withSeq v).t = s.t := rfl
@[simp] theorem State.withSeq_seq (s : State) (v : Seq) : (s.withSeq v).seq = v := rfl
@[simp] theorem State.withSeq_lat (s : State) (v : Seq) : (s.withSeq v).lat = s.lat := rfl
@[simp] theorem State.withSeq_cyc (s : State) (v : Seq) : (s.withSeq v).cyc = s.cyc := rfl
@[simp] theorem State.withSeq_bus (s : State) (v : Seq) : (s.withSeq v).bus = s.bus := rfl
@[simp] theorem State.withSeq_events (s : State) (v : Seq) : (s.withSeq v).events = s.events := rfl
@[simp] theorem State.withSeq_inputs (s : State) (v : Seq) : (s.withSeq v).inputs = s.inputs := rfl
@[simp] theorem State.withSeq_cfg (s : State) (v : Seq) : (s.withSeq v).cfg = s.cfg := rfl

@[simp] theorem State.withLat_r (s : State) (v : Latches) : (s.withLat v).r = s.r := rfl
@[simp] theorem State.withLat_pc (s : State) (v : Latches) : (s.withLat v).pc = s.pc := rfl
@[simp] theorem State.withLat_mem (s : State) (v : Latches) : (s.withLat v).mem = s.mem := rfl
@[simp] theorem State.withLat_nmiPending (s : State) (v : Latches) : (s.withLat v).nmiPending = s.nmiPending := rfl
@[simp] theorem State.withLat_irqLine (s : State) (v : Latches) : (s.withLat v).irqLine = s.irqLine := rfl
@[simp] theorem State.withLat_svc (s : State) (v : Latches) : (s.withLat v).svc = s.svc := rfl
@[simp] theorem State.withLat_run (s : State) (v : Latches) : (s.withLat v).run = s.run := rfl
@[simp] theorem State.withLat_t (s : State) (v : Latches) : (s.withLat v).t = s.t := rfl
@[simp] theorem State.withLat_seq (s : State) (v : Latches) : (s.withLat v).seq = s.seq := rfl
@[simp] theorem State.withLat_lat (s : State) (v : Latches) : (s.withLat v).lat = v := rfl
@[simp] theorem State.withLat_cyc (s : State) (v : Latches) : (s.withLat v).cyc = s.cyc := rfl
@[simp] theorem State.withLat_bus (s : State) (v : Latches) : (s.withLat v).bus = s.bus := rfl
@[simp] theorem State.withLat_events (s : State) (v : Latches) : (s.withLat v).events = s.events := rfl
@[simp] theorem State.withLat_inputs (s : State) (v : Latches) : (s.withLat v).inputs = s.inputs := rfl
@[simp] theorem State.withLat_cfg (s : State) (v : Latches) : (s.withLat v).cfg = s.cfg := rfl

@[simp] theorem State.withCyc_r (s : State) (v : Nat) : (s.withCyc v).r = s.r := rfl
@[simp] theorem State.withCyc_pc (s : State) (v : Nat) : (s.withCyc v).pc = s.pc := rfl
@[simp] theorem State.withCyc_mem (s : State) (v : Nat) : (s.withCyc v).mem = s.mem := rfl
@[simp] theorem State.withCyc_nmiPending (s : State) (v : Nat) : (s.withCyc v).nmiPending = s.nmiPending := rfl
@[simp] theorem State.withCyc_irqLine (s : State) (v : Nat) : (s.withCyc v).irqLine = s.irqLine := rfl
@[simp] theorem State.withCyc_svc (s : State) (v : Nat) : (s.withCyc v).svc = s.svc := rfl
@[simp] theorem State.withCyc_run (s : State) (v : Nat) : (s.withCyc v).run = s.run := rfl
@[simp] theorem State.withCyc_t (s : State) (v : Nat) : (s.withCyc v).t = s.t := rfl
@[simp] theorem State.withCyc_seq (s : State) (v : Nat) : (s.withCyc v).seq = s.seq := rfl
@[simp] theorem State.withCyc_lat (s : State) (v : Nat) : (s.withCyc v).lat = s.lat := rfl
@[simp] theorem State.withCyc_cyc (s : State) (v : Nat) : (s.withCyc v).cyc = v := rfl
@[simp] theorem State.withCyc_bus (s : State) (v : Nat) : (s.withCyc v).bus = s.bus := rfl
@[simp] theorem State.withCyc_events (s : State) (v : Nat) : (s.withCyc v).events = s.events := rfl
@[simp] theorem State.withCyc_inputs (s : State) (v : Nat) : (s.withCyc v).inputs = s.inputs := rfl
@[simp] theorem State.withCyc_cfg (s : State) (v : Nat) : (s.withCyc v).cfg = s.cfg := rfl

@[simp] theorem State.withBus_r (s : State) (v : List BusCycle) : (s.withBus v).r = s.r := rfl
@[simp] theorem State.withBus_pc (s : State) (v : List BusCycle) : (s.withBus v).pc = s.pc := rfl
@[simp] theorem State.withBus_mem (s : State) (v : List BusCycle) : (s.withBus v).mem = s.mem := rfl
@[simp] theorem State.withBus_nmiPending (s : State) (v : List BusCycle) : (s.withBus v).nmiPending = s.nmiPending := rfl
@[simp] theorem State.withBus_irqLine (s : State) (v : List BusCycle) : (s.withBus v).irqLine = s.irqLine := rfl
@[simp] theorem State.withBus_svc (s : State) (v : List BusCycle) : (s.withBus v).svc = s.svc := rfl
@[simp] theorem State.withBus_run (s : State) (v : List BusCycle) : (s.withBus v).run = s.run := rfl
@[simp] theorem State.withBus_t (s : State) (v : List BusCycle) : (s.withBus v).t = s.t := rfl
@[simp] theorem State.withBus_seq (s : State) (v : List BusCycle) : (s.withBus v).seq = s.seq := rfl
@[simp] theorem State.withBus_lat (s : State) (v : List BusCycle) : (s.withBus v).lat = s.lat := rfl
@[simp] theorem State.withBus_cyc (s : State) (v : List BusCycle) : (s.withBus v).cyc = s.cyc := rfl
@[simp] theorem State.withBus_bus (s : State) (v : List BusCycle) : (s.withBus v).bus = v := rfl
@[simp] theorem State.withBus_events (s : State) (v : List BusCycle) : (s.withBus v).events = s.events := rfl
@[simp] theorem State.withBus_inputs (s : State) (v : List BusCycle) : (s.withBus v).inputs = s.inputs := rfl
@[simp] theorem State.withBus_cfg (s : State) (v : List BusCycle) : (s.withBus v).cfg = s.cfg := rfl

@[simp] theorem State.withEvents_r (s : State) (v : List PolicyEvent) : (s.withEvents v).r = s.r := rfl
@[simp] theorem State.withEvents_pc (s : State) (v : List PolicyEvent) : (s.withEvents v).pc = s.pc := rfl
@[simp] theorem State.withEvents_mem (s : State) (v : List PolicyEvent) : (s.withEvents v).mem = s.mem := rfl
@[simp] theorem State.withEvents_nmiPending (s : State) (v : List PolicyEvent) : (s.withEvents v).nmiPending = s.nmiPending := rfl
@[simp] theorem State.withEvents_irqLine (s : State) (v : List PolicyEvent) : (s.withEvents v).irqLine = s.irqLine := rfl
@[simp] theorem State.withEvents_svc (s : State) (v : List PolicyEvent) : (s.withEvents v).svc = s.svc := rfl
@[simp] theorem State.withEvents_run (s : State) (v : List PolicyEvent) : (s.withEvents v).run = s.run := rfl
@[simp] theorem State.withEvents_t (s : State) (v : List PolicyEvent) : (s.withEvents v).t = s.t := rfl
@[simp] theorem State.withEvents_seq (s : State) (v : List PolicyEvent) : (s.withEvents v).seq = s.seq := rfl
@[simp] theorem State.withEvents_lat (s : State) (v : List PolicyEvent) : (s.withEvents v).lat = s.lat := rfl
@[simp] theorem State.withEvents_cyc (s : State) (v : List PolicyEvent) : (s.withEvents v).cyc = s.cyc := rfl
@[simp] theorem State.withEvents_bus (s : State) (v : List PolicyEvent) : (s.withEvents v).bus = s.bus := rfl
@[simp] theorem State.withEvents_events (s : State) (v : List PolicyEvent) : (s.withEvents v).events = v := rfl
@[simp] theorem State.withEvents_inputs (s : State) (v : List PolicyEvent) : (s.withEvents v).inputs = s.inputs := rfl
@[simp] theorem State.withEvents_cfg (s : State) (v : List PolicyEvent) : (s.withEvents v).cfg = s.cfg := rfl

@[simp] theorem State.withInputs_r (s : State) (v : List HostInput) : (s.withInputs v).r = s.r := rfl
@[simp] theorem State.withInputs_pc (s : State) (v : List HostInput) : (s.withInputs v).pc = s.pc := rfl
@[simp] theorem State.withInputs_mem (s : State) (v : List HostInput) : (s.withInputs v).mem = s.mem := rfl
@[simp] theorem State.withInputs_nmiPending (s : State) (v : List HostInput) : (s.withInputs v).nmiPending = s.nmiPending := rfl
@[simp] theorem State.withInputs_irqLine (s : State) (v : List HostInput) : (s.withInputs v).irqLine = s.irqLine := rfl
@[simp] theorem State.withInputs_svc (s : State) (v : List HostInput) : (s.withInputs v).svc = s.svc := rfl
@[simp] theorem State.withInputs_run (s : State) (v : List HostInput) : (s.withInputs v).run = s.run := rfl
@[simp] theorem State.withInputs_t (s : State) (v : List HostInput) : (s.withInputs v).t = s.t := rfl
@[simp] theorem State.withInputs_seq (s : State) (v : List HostInput) : (s.withInputs v).seq = s.seq := rfl
@[simp] theorem State.withInputs_lat (s : State) (v : List HostInput) : (s.withInputs v).lat = s.lat := rfl
@[simp] theorem State.withInputs_cyc (s : State) (v : List HostInput) : (s.withInputs v).cyc = s.cyc := rfl
@[simp] theorem State.withInputs_bus (s : State) (v : List HostInput) : (s.withInputs v).bus = s.bus := rfl
@[simp] theorem State.withInputs_events (s : State) (v : List HostInput) : (s.withInputs v).events = s.events := rfl
@[simp] theorem State.withInputs_inputs (s : State) (v : List HostInput) : (s.withInputs v).inputs = v := rfl
@[simp] theorem State.withInputs_cfg (s : State) (v : List HostInput) : (s.withInputs v).cfg = s.cfg := rfl

end Sys2Proof.Machine
end

