-- ==== Sys2Proof/Laws/Ops.lean ====
section
/-! SUPPORT. What each shared operation of Machine/Ops.lean leaves in each field of State, and the one-field updates in
terms of the named updates. -/

namespace Sys2Proof.Machine

/-! The updates of one register or latch are named updates of State. -/

@[simp] theorem State.setA_eq (s : State) (v : Byte) : s.setA v = s.withR { s.r with a := v } := rfl
@[simp] theorem State.setX_eq (s : State) (v : Byte) : s.setX v = s.withR { s.r with x := v } := rfl
@[simp] theorem State.setY_eq (s : State) (v : Byte) : s.setY v = s.withR { s.r with y := v } := rfl
@[simp] theorem State.setS_eq (s : State) (v : Byte) : s.setS v = s.withR { s.r with sp := v } := rfl
@[simp] theorem State.setP_eq (s : State) (v : Flags) : s.setP v = s.withR { s.r with p := v } := rfl
@[simp] theorem State.setZpa_eq (s : State) (v : Byte) : s.setZpa v = s.withLat { s.lat with zpa := v } := rfl
@[simp] theorem State.setAdl_eq (s : State) (v : Byte) : s.setAdl v = s.withLat { s.lat with adl := v } := rfl
@[simp] theorem State.setAdh_eq (s : State) (v : Byte) : s.setAdh v = s.withLat { s.lat with adh := v } := rfl
@[simp] theorem State.setEa_eq (s : State) (v : Word) : s.setEa v = s.withLat { s.lat with ea := v } := rfl
@[simp] theorem State.setDl_eq (s : State) (v : Byte) : s.setDl v = s.withLat { s.lat with dl := v } := rfl
@[simp] theorem State.setRel_eq (s : State) (v : Byte) : s.setRel v = s.withLat { s.lat with rel := v } := rfl
@[simp] theorem State.setCross_eq (s : State) (v : Bool) : s.setCross v = s.withLat { s.lat with cross := v } := rfl

/-! The address of a dummy cycle (40_addressing_and_bus_cycles.md R114), by the form of its parameter. -/

@[simp] theorem DummyAddr.eval_dflt (d : Dummy) (v : DummyView) (a : Word) : DummyAddr.eval d v a .dflt = a := rfl
@[simp] theorem DummyAddr.eval_fixed (d : Dummy) (v : DummyView) (a b : Word) :
    DummyAddr.eval d v a (.fixed b) = b := rfl
@[simp] theorem DummyAddr.eval_free (d : Dummy) (v : DummyView) (a : Word) :
    DummyAddr.eval d v a .free = Config.freeDummyAddress d v := rfl

/-- With the parameters at their defaults every dummy cycle has the default address of R114. -/
theorem State.dummyAddr_default (s : State) (h : s.cfg.dummies = {}) (d : Dummy) (a : Word) : s.dummyAddr d a = a := by
  rw [State.dummyAddr, h]; cases d <;> rfl

/-- Every choice of addresses for the dummy cycles of a run of `n` cycles is the value of some parameter, so that what
holds for all parameters holds for all addresses. -/
theorem DummyAddr.eval_of_schedule (f : Nat → Word) (n : Nat) :
    ∃ e : DummyAddr, ∀ (d : Dummy) (v : DummyView) (a : Word), v.cyc < n → DummyAddr.eval d v a e = f v.cyc := by
  induction n with
  | zero => exact ⟨.dflt, fun _ _ _ h => absurd h (Nat.not_lt_zero _)⟩
  | succ n ih =>
    obtain ⟨e, he⟩ := ih
    refine ⟨.atCycle n (.fixed (f n)) e, fun d v a h => ?_⟩
    by_cases hc : v.cyc = n
    · simp [DummyAddr.eval, hc]
    · simpa [DummyAddr.eval, hc] using he d v a (by omega)

/-! A policy event touches nothing but the log (20_memory.md R58). -/

@[simp] theorem State.noteRead_r (s : State) (a : Word) :
    (s.noteRead a).r = s.r := by
  unfold State.noteRead; split <;> rfl
@[simp] theorem State.noteRead_pc (s : State) (a : Word) :
    (s.noteRead a).pc = s.pc := by
  unfold State.noteRead; split <;> rfl
@[simp] theorem State.noteRead_mem (s : State) (a : Word) :
    (s.noteRead a).mem = s.mem := by
  unfold State.noteRead; split <;> rfl
@[simp] theorem State.noteRead_nmiPending (s : State) (a : Word) :
    (s.noteRead a).nmiPending = s.nmiPending := by
  unfold State.noteRead; split <;> rfl
@[simp] theorem State.noteRead_irqLine (s : State) (a : Word) :
    (s.noteRead a).irqLine = s.irqLine := by
  unfold State.noteRead; split <;> rfl
@[simp] theorem State.noteRead_svc (s : State) (a : Word) :
    (s.noteRead a).svc = s.svc := by
  unfold State.noteRead; split <;> rfl
@[simp] theorem State.noteRead_run (s : State) (a : Word) :
    (s.noteRead a).run = s.run := by
  unfold State.noteRead; split <;> rfl
@[simp] theorem State.noteRead_t (s : State) (a : Word) :
    (s.noteRead a).t = s.t := by
  unfold State.noteRead; split <;> rfl
@[simp] theorem State.noteRead_seq (s : State) (a : Word) :
    (s.noteRead a).seq = s.seq := by
  unfold State.noteRead; split <;> rfl
@[simp] theorem State.noteRead_lat (s : State) (a : Word) :
    (s.noteRead a).lat = s.lat := by
  unfold State.noteRead; split <;> rfl
@[simp] theorem State.noteRead_cyc (s : State) (a : Word) :
    (s.noteRead a).cyc = s.cyc := by
  unfold State.noteRead; split <;> rfl
@[simp] theorem State.noteRead_bus (s : State) (a : Word) :
    (s.noteRead a).bus = s.bus := by
  unfold State.noteRead; split <;> rfl
@[simp] theorem State.noteRead_inputs (s : State) (a : Word) :
    (s.noteRead a).inputs = s.inputs := by
  unfold State.noteRead; split <;> rfl
@[simp] theorem State.noteRead_cfg (s : State) (a : Word) :
    (s.noteRead a).cfg = s.cfg := by
  unfold State.noteRead; split <;> rfl

@[simp] theorem State.noteWrite_r (s : State) (a : Word) (v : Byte) :
    (s.noteWrite a v).r = s.r := by
  unfold State.noteWrite; split <;> rfl
@[simp] theorem State.noteWrite_pc (s : State) (a : Word) (v : Byte) :
    (s.noteWrite a v).pc = s.pc := by
  unfold State.noteWrite; split <;> rfl
@[simp] theorem State.noteWrite_mem (s : State) (a : Word) (v : Byte) :
    (s.noteWrite a v).mem = s.mem := by
  unfold State.noteWrite; split <;> rfl
@[simp] theorem State.noteWrite_nmiPending (s : State) (a : Word) (v : Byte) :
    (s.noteWrite a v).nmiPending = s.nmiPending := by
  unfold State.noteWrite; split <;> rfl
@[simp] theorem State.noteWrite_irqLine (s : State) (a : Word) (v : Byte) :
    (s.noteWrite a v).irqLine = s.irqLine := by
  unfold State.noteWrite; split <;> rfl
@[simp] theorem State.noteWrite_svc (s : State) (a : Word) (v : Byte) :
    (s.noteWrite a v).svc = s.svc := by
  unfold State.noteWrite; split <;> rfl
@[simp] theorem State.noteWrite_run (s : State) (a : Word) (v : Byte) :
    (s.noteWrite a v).run = s.run := by
  unfold State.noteWrite; split <;> rfl
@[simp] theorem State.noteWrite_t (s : State) (a : Word) (v : Byte) :
    (s.noteWrite a v).t = s.t := by
  unfold State.noteWrite; split <;> rfl
@[simp] theorem State.noteWrite_seq (s : State) (a : Word) (v : Byte) :
    (s.noteWrite a v).seq = s.seq := by
  unfold State.noteWrite; split <;> rfl
@[simp] theorem State.noteWrite_lat (s : State) (a : Word) (v : Byte) :
    (s.noteWrite a v).lat = s.lat := by
  unfold State.noteWrite; split <;> rfl
@[simp] theorem State.noteWrite_cyc (s : State) (a : Word) (v : Byte) :
    (s.noteWrite a v).cyc = s.cyc := by
  unfold State.noteWrite; split <;> rfl
@[simp] theorem State.noteWrite_bus (s : State) (a : Word) (v : Byte) :
    (s.noteWrite a v).bus = s.bus := by
  unfold State.noteWrite; split <;> rfl
@[simp] theorem State.noteWrite_inputs (s : State) (a : Word) (v : Byte) :
    (s.noteWrite a v).inputs = s.inputs := by
  unfold State.noteWrite; split <;> rfl
@[simp] theorem State.noteWrite_cfg (s : State) (a : Word) (v : Byte) :
    (s.noteWrite a v).cfg = s.cfg := by
  unfold State.noteWrite; split <;> rfl

/-! The emission of a BusCycle (10_state.md R36). -/

@[simp] theorem State.emit_r (s : State) (a : Word) (v : Byte) (d : Dir) (y p : Bool) :
    (s.emit a v d y p).r = s.r := rfl
@[simp] theorem State.emit_pc (s : State) (a : Word) (v : Byte) (d : Dir) (y p : Bool) :
    (s.emit a v d y p).pc = s.pc := rfl
@[simp] theorem State.emit_mem (s : State) (a : Word) (v : Byte) (d : Dir) (y p : Bool) :
    (s.emit a v d y p).mem = s.mem := rfl
@[simp] theorem State.emit_nmiPending (s : State) (a : Word) (v : Byte) (d : Dir) (y p : Bool) :
    (s.emit a v d y p).nmiPending = s.nmiPending := rfl
@[simp] theorem State.emit_irqLine (s : State) (a : Word) (v : Byte) (d : Dir) (y p : Bool) :
    (s.emit a v d y p).irqLine = s.irqLine := rfl
@[simp] theorem State.emit_svc (s : State) (a : Word) (v : Byte) (d : Dir) (y p : Bool) :
    (s.emit a v d y p).svc = s.svc := rfl
@[simp] theorem State.emit_run (s : State) (a : Word) (v : Byte) (d : Dir) (y p : Bool) :
    (s.emit a v d y p).run = s.run := rfl
@[simp] theorem State.emit_t (s : State) (a : Word) (v : Byte) (d : Dir) (y p : Bool) :
    (s.emit a v d y p).t = s.t := rfl
@[simp] theorem State.emit_seq (s : State) (a : Word) (v : Byte) (d : Dir) (y p : Bool) :
    (s.emit a v d y p).seq = s.seq := rfl
@[simp] theorem State.emit_lat (s : State) (a : Word) (v : Byte) (d : Dir) (y p : Bool) :
    (s.emit a v d y p).lat = s.lat := rfl
@[simp] theorem State.emit_cyc (s : State) (a : Word) (v : Byte) (d : Dir) (y p : Bool) :
    (s.emit a v d y p).cyc = s.cyc + 1 := rfl
@[simp] theorem State.emit_bus (s : State) (a : Word) (v : Byte) (d : Dir) (y p : Bool) :
    (s.emit a v d y p).bus = { cyc := s.cyc, addr := a, data := v, dir := d, sync := y, vp := p } :: s.bus := rfl
@[simp] theorem State.emit_events (s : State) (a : Word) (v : Byte) (d : Dir) (y p : Bool) :
    (s.emit a v d y p).events = s.events := rfl
@[simp] theorem State.emit_inputs (s : State) (a : Word) (v : Byte) (d : Dir) (y p : Bool) :
    (s.emit a v d y p).inputs = s.inputs := rfl
@[simp] theorem State.emit_cfg (s : State) (a : Word) (v : Byte) (d : Dir) (y p : Bool) :
    (s.emit a v d y p).cfg = s.cfg := rfl

/-! A read cycle changes no machine state but `cyc` (20_memory.md R57). -/

@[simp] theorem State.readCycle_r (s : State) (a : Word) (v : Byte) (y p : Bool) :
    (s.readCycle a v y p).r = s.r := by
  simp [State.readCycle]
@[simp] theorem State.readCycle_pc (s : State) (a : Word) (v : Byte) (y p : Bool) :
    (s.readCycle a v y p).pc = s.pc := by
  simp [State.readCycle]
@[simp] theorem State.readCycle_mem (s : State) (a : Word) (v : Byte) (y p : Bool) :
    (s.readCycle a v y p).mem = s.mem := by
  simp [State.readCycle]
@[simp] theorem State.readCycle_nmiPending (s : State) (a : Word) (v : Byte) (y p : Bool) :
    (s.readCycle a v y p).nmiPending = s.nmiPending := by
  simp [State.readCycle]
@[simp] theorem State.readCycle_irqLine (s : State) (a : Word) (v : Byte) (y p : Bool) :
    (s.readCycle a v y p).irqLine = s.irqLine := by
  simp [State.readCycle]
@[simp] theorem State.readCycle_svc (s : State) (a : Word) (v : Byte) (y p : Bool) :
    (s.readCycle a v y p).svc = s.svc := by
  simp [State.readCycle]
@[simp] theorem State.readCycle_run (s : State) (a : Word) (v : Byte) (y p : Bool) :
    (s.readCycle a v y p).run = s.run := by
  simp [State.readCycle]
@[simp] theorem State.readCycle_t (s : State) (a : Word) (v : Byte) (y p : Bool) :
    (s.readCycle a v y p).t = s.t := by
  simp [State.readCycle]
@[simp] theorem State.readCycle_seq (s : State) (a : Word) (v : Byte) (y p : Bool) :
    (s.readCycle a v y p).seq = s.seq := by
  simp [State.readCycle]
@[simp] theorem State.readCycle_lat (s : State) (a : Word) (v : Byte) (y p : Bool) :
    (s.readCycle a v y p).lat = s.lat := by
  simp [State.readCycle]
@[simp] theorem State.readCycle_cyc (s : State) (a : Word) (v : Byte) (y p : Bool) :
    (s.readCycle a v y p).cyc = s.cyc + 1 := by
  simp [State.readCycle]
@[simp] theorem State.readCycle_bus (s : State) (a : Word) (v : Byte) (y p : Bool) :
    (s.readCycle a v y p).bus = { cyc := s.cyc, addr := a, data := v, dir := .read, sync := y, vp := p } :: s.bus := by
  simp [State.readCycle]
@[simp] theorem State.readCycle_inputs (s : State) (a : Word) (v : Byte) (y p : Bool) :
    (s.readCycle a v y p).inputs = s.inputs := by
  simp [State.readCycle]
@[simp] theorem State.readCycle_cfg (s : State) (a : Word) (v : Byte) (y p : Bool) :
    (s.readCycle a v y p).cfg = s.cfg := by
  simp [State.readCycle]

@[simp] theorem State.busRead_r (s : State) (a : Word) : (s.busRead a).r = s.r := by
  simp [State.busRead]
@[simp] theorem State.busRead_pc (s : State) (a : Word) : (s.busRead a).pc = s.pc := by
  simp [State.busRead]
@[simp] theorem State.busRead_mem (s : State) (a : Word) : (s.busRead a).mem = s.mem := by
  simp [State.busRead]
@[simp] theorem State.busRead_nmiPending (s : State) (a : Word) :
    (s.busRead a).nmiPending = s.nmiPending := by
  simp [State.busRead]
@[simp] theorem State.busRead_irqLine (s : State) (a : Word) :
    (s.busRead a).irqLine = s.irqLine := by
  simp [State.busRead]
@[simp] theorem State.busRead_svc (s : State) (a : Word) : (s.busRead a).svc = s.svc := by
  simp [State.busRead]
@[simp] theorem State.busRead_run (s : State) (a : Word) : (s.busRead a).run = s.run := by
  simp [State.busRead]
@[simp] theorem State.busRead_t (s : State) (a : Word) : (s.busRead a).t = s.t := by
  simp [State.busRead]
@[simp] theorem State.busRead_seq (s : State) (a : Word) : (s.busRead a).seq = s.seq := by
  simp [State.busRead]
@[simp] theorem State.busRead_lat (s : State) (a : Word) : (s.busRead a).lat = s.lat := by
  simp [State.busRead]
@[simp] theorem State.busRead_cyc (s : State) (a : Word) : (s.busRead a).cyc = s.cyc + 1 := by
  simp [State.busRead]
@[simp] theorem State.busRead_bus (s : State) (a : Word) :
    (s.busRead a).bus = { cyc := s.cyc, addr := a, data := s.memRead a, dir := .read, sync := false, vp := false } :: s.bus := by
  simp [State.busRead]
@[simp] theorem State.busRead_inputs (s : State) (a : Word) :
    (s.busRead a).inputs = s.inputs := by
  simp [State.busRead]
@[simp] theorem State.busRead_cfg (s : State) (a : Word) : (s.busRead a).cfg = s.cfg := by
  simp [State.busRead]

@[simp] theorem State.vectorRead_r (s : State) (a : Word) : (s.vectorRead a).r = s.r := by
  simp [State.vectorRead]
@[simp] theorem State.vectorRead_pc (s : State) (a : Word) : (s.vectorRead a).pc = s.pc := by
  simp [State.vectorRead]
@[simp] theorem State.vectorRead_mem (s : State) (a : Word) :
    (s.vectorRead a).mem = s.mem := by
  simp [State.vectorRead]
@[simp] theorem State.vectorRead_nmiPending (s : State) (a : Word) :
    (s.vectorRead a).nmiPending = s.nmiPending := by
  simp [State.vectorRead]
@[simp] theorem State.vectorRead_irqLine (s : State) (a : Word) :
    (s.vectorRead a).irqLine = s.irqLine := by
  simp [State.vectorRead]
@[simp] theorem State.vectorRead_svc (s : State) (a : Word) :
    (s.vectorRead a).svc = s.svc := by
  simp [State.vectorRead]
@[simp] theorem State.vectorRead_run (s : State) (a : Word) :
    (s.vectorRead a).run = s.run := by
  simp [State.vectorRead]
@[simp] theorem State.vectorRead_t (s : State) (a : Word) : (s.vectorRead a).t = s.t := by
  simp [State.vectorRead]
@[simp] theorem State.vectorRead_seq (s : State) (a : Word) :
    (s.vectorRead a).seq = s.seq := by
  simp [State.vectorRead]
@[simp] theorem State.vectorRead_lat (s : State) (a : Word) :
    (s.vectorRead a).lat = s.lat := by
  simp [State.vectorRead]
@[simp] theorem State.vectorRead_cyc (s : State) (a : Word) :
    (s.vectorRead a).cyc = s.cyc + 1 := by
  simp [State.vectorRead]
@[simp] theorem State.vectorRead_bus (s : State) (a : Word) :
    (s.vectorRead a).bus = { cyc := s.cyc, addr := a, data := s.memRead a, dir := .read, sync := false, vp := true } :: s.bus := by
  simp [State.vectorRead]
@[simp] theorem State.vectorRead_inputs (s : State) (a : Word) :
    (s.vectorRead a).inputs = s.inputs := by
  simp [State.vectorRead]
@[simp] theorem State.vectorRead_cfg (s : State) (a : Word) :
    (s.vectorRead a).cfg = s.cfg := by
  simp [State.vectorRead]

@[simp] theorem State.dummyRead_r (s : State) (d : Dummy) (a : Word) :
    (s.dummyRead d a).r = s.r := by
  simp [State.dummyRead]
@[simp] theorem State.dummyRead_pc (s : State) (d : Dummy) (a : Word) :
    (s.dummyRead d a).pc = s.pc := by
  simp [State.dummyRead]
@[simp] theorem State.dummyRead_mem (s : State) (d : Dummy) (a : Word) :
    (s.dummyRead d a).mem = s.mem := by
  simp [State.dummyRead]
@[simp] theorem State.dummyRead_nmiPending (s : State) (d : Dummy) (a : Word) :
    (s.dummyRead d a).nmiPending = s.nmiPending := by
  simp [State.dummyRead]
@[simp] theorem State.dummyRead_irqLine (s : State) (d : Dummy) (a : Word) :
    (s.dummyRead d a).irqLine = s.irqLine := by
  simp [State.dummyRead]
@[simp] theorem State.dummyRead_svc (s : State) (d : Dummy) (a : Word) :
    (s.dummyRead d a).svc = s.svc := by
  simp [State.dummyRead]
@[simp] theorem State.dummyRead_run (s : State) (d : Dummy) (a : Word) :
    (s.dummyRead d a).run = s.run := by
  simp [State.dummyRead]
@[simp] theorem State.dummyRead_t (s : State) (d : Dummy) (a : Word) :
    (s.dummyRead d a).t = s.t := by
  simp [State.dummyRead]
@[simp] theorem State.dummyRead_seq (s : State) (d : Dummy) (a : Word) :
    (s.dummyRead d a).seq = s.seq := by
  simp [State.dummyRead]
@[simp] theorem State.dummyRead_lat (s : State) (d : Dummy) (a : Word) :
    (s.dummyRead d a).lat = s.lat := by
  simp [State.dummyRead]
@[simp] theorem State.dummyRead_cyc (s : State) (d : Dummy) (a : Word) :
    (s.dummyRead d a).cyc = s.cyc + 1 := by
  simp [State.dummyRead]
@[simp] theorem State.dummyRead_bus (s : State) (d : Dummy) (a : Word) :
    (s.dummyRead d a).bus = { cyc := s.cyc, addr := s.dummyAddr d a, data := s.memRead (s.dummyAddr d a), dir := .read, sync := false, vp := false } :: s.bus := by
  simp [State.dummyRead]
@[simp] theorem State.dummyRead_inputs (s : State) (d : Dummy) (a : Word) :
    (s.dummyRead d a).inputs = s.inputs := by
  simp [State.dummyRead]
@[simp] theorem State.dummyRead_cfg (s : State) (d : Dummy) (a : Word) :
    (s.dummyRead d a).cfg = s.cfg := by
  simp [State.dummyRead]

@[simp] theorem State.dummySyncRead_r (s : State) (d : Dummy) (a : Word) :
    (s.dummySyncRead d a).r = s.r := by
  simp [State.dummySyncRead]
@[simp] theorem State.dummySyncRead_pc (s : State) (d : Dummy) (a : Word) :
    (s.dummySyncRead d a).pc = s.pc := by
  simp [State.dummySyncRead]
@[simp] theorem State.dummySyncRead_mem (s : State) (d : Dummy) (a : Word) :
    (s.dummySyncRead d a).mem = s.mem := by
  simp [State.dummySyncRead]
@[simp] theorem State.dummySyncRead_nmiPending (s : State) (d : Dummy) (a : Word) :
    (s.dummySyncRead d a).nmiPending = s.nmiPending := by
  simp [State.dummySyncRead]
@[simp] theorem State.dummySyncRead_irqLine (s : State) (d : Dummy) (a : Word) :
    (s.dummySyncRead d a).irqLine = s.irqLine := by
  simp [State.dummySyncRead]
@[simp] theorem State.dummySyncRead_svc (s : State) (d : Dummy) (a : Word) :
    (s.dummySyncRead d a).svc = s.svc := by
  simp [State.dummySyncRead]
@[simp] theorem State.dummySyncRead_run (s : State) (d : Dummy) (a : Word) :
    (s.dummySyncRead d a).run = s.run := by
  simp [State.dummySyncRead]
@[simp] theorem State.dummySyncRead_t (s : State) (d : Dummy) (a : Word) :
    (s.dummySyncRead d a).t = s.t := by
  simp [State.dummySyncRead]
@[simp] theorem State.dummySyncRead_seq (s : State) (d : Dummy) (a : Word) :
    (s.dummySyncRead d a).seq = s.seq := by
  simp [State.dummySyncRead]
@[simp] theorem State.dummySyncRead_lat (s : State) (d : Dummy) (a : Word) :
    (s.dummySyncRead d a).lat = s.lat := by
  simp [State.dummySyncRead]
@[simp] theorem State.dummySyncRead_cyc (s : State) (d : Dummy) (a : Word) :
    (s.dummySyncRead d a).cyc = s.cyc + 1 := by
  simp [State.dummySyncRead]
@[simp] theorem State.dummySyncRead_bus (s : State) (d : Dummy) (a : Word) :
    (s.dummySyncRead d a).bus = { cyc := s.cyc, addr := s.dummyAddr d a, data := s.memRead (s.dummyAddr d a), dir := .read, sync := true, vp := false } :: s.bus := by
  simp [State.dummySyncRead]
@[simp] theorem State.dummySyncRead_inputs (s : State) (d : Dummy) (a : Word) :
    (s.dummySyncRead d a).inputs = s.inputs := by
  simp [State.dummySyncRead]
@[simp] theorem State.dummySyncRead_cfg (s : State) (d : Dummy) (a : Word) :
    (s.dummySyncRead d a).cfg = s.cfg := by
  simp [State.dummySyncRead]

/-! A write cycle changes memory as the policy says, and `cyc` (20_memory.md R56). -/

@[simp] theorem State.busWrite_r (s : State) (a : Word) (v : Byte) :
    (s.busWrite a v).r = s.r := by
  simp [State.busWrite]
@[simp] theorem State.busWrite_pc (s : State) (a : Word) (v : Byte) :
    (s.busWrite a v).pc = s.pc := by
  simp [State.busWrite]
@[simp] theorem State.busWrite_mem (s : State) (a : Word) (v : Byte) :
    (s.busWrite a v).mem = storeByte s.cfg.memcfg s.mem a v := by
  simp [State.busWrite]
@[simp] theorem State.busWrite_nmiPending (s : State) (a : Word) (v : Byte) :
    (s.busWrite a v).nmiPending = s.nmiPending := by
  simp [State.busWrite]
@[simp] theorem State.busWrite_irqLine (s : State) (a : Word) (v : Byte) :
    (s.busWrite a v).irqLine = s.irqLine := by
  simp [State.busWrite]
@[simp] theorem State.busWrite_svc (s : State) (a : Word) (v : Byte) :
    (s.busWrite a v).svc = s.svc := by
  simp [State.busWrite]
@[simp] theorem State.busWrite_run (s : State) (a : Word) (v : Byte) :
    (s.busWrite a v).run = s.run := by
  simp [State.busWrite]
@[simp] theorem State.busWrite_t (s : State) (a : Word) (v : Byte) :
    (s.busWrite a v).t = s.t := by
  simp [State.busWrite]
@[simp] theorem State.busWrite_seq (s : State) (a : Word) (v : Byte) :
    (s.busWrite a v).seq = s.seq := by
  simp [State.busWrite]
@[simp] theorem State.busWrite_lat (s : State) (a : Word) (v : Byte) :
    (s.busWrite a v).lat = s.lat := by
  simp [State.busWrite]
@[simp] theorem State.busWrite_cyc (s : State) (a : Word) (v : Byte) :
    (s.busWrite a v).cyc = s.cyc + 1 := by
  simp [State.busWrite]
@[simp] theorem State.busWrite_bus (s : State) (a : Word) (v : Byte) :
    (s.busWrite a v).bus = { cyc := s.cyc, addr := a, data := v, dir := .write, sync := false, vp := false } :: s.bus := by
  simp [State.busWrite]
@[simp] theorem State.busWrite_inputs (s : State) (a : Word) (v : Byte) :
    (s.busWrite a v).inputs = s.inputs := by
  simp [State.busWrite]
@[simp] theorem State.busWrite_cfg (s : State) (a : Word) (v : Byte) :
    (s.busWrite a v).cfg = s.cfg := by
  simp [State.busWrite]

/-! The fetch of an operand byte (10_state.md R25). -/

@[simp] theorem State.fetchByte_r (s : State) (b : Byte) : (s.fetchByte b).r = s.r := by
  simp [State.fetchByte]
@[simp] theorem State.fetchByte_pc (s : State) (b : Byte) :
    (s.fetchByte b).pc = s.pc + 1#16 := by
  simp [State.fetchByte]
@[simp] theorem State.fetchByte_mem (s : State) (b : Byte) : (s.fetchByte b).mem = s.mem := by
  simp [State.fetchByte]
@[simp] theorem State.fetchByte_nmiPending (s : State) (b : Byte) :
    (s.fetchByte b).nmiPending = s.nmiPending := by
  simp [State.fetchByte]
@[simp] theorem State.fetchByte_irqLine (s : State) (b : Byte) :
    (s.fetchByte b).irqLine = s.irqLine := by
  simp [State.fetchByte]
@[simp] theorem State.fetchByte_svc (s : State) (b : Byte) : (s.fetchByte b).svc = s.svc := by
  simp [State.fetchByte]
@[simp] theorem State.fetchByte_run (s : State) (b : Byte) : (s.fetchByte b).run = s.run := by
  simp [State.fetchByte]
@[simp] theorem State.fetchByte_t (s : State) (b : Byte) : (s.fetchByte b).t = s.t := by
  simp [State.fetchByte]
@[simp] theorem State.fetchByte_seq (s : State) (b : Byte) : (s.fetchByte b).seq = s.seq := by
  simp [State.fetchByte]
@[simp] theorem State.fetchByte_lat (s : State) (b : Byte) : (s.fetchByte b).lat = s.lat := by
  simp [State.fetchByte]
@[simp] theorem State.fetchByte_cyc (s : State) (b : Byte) :
    (s.fetchByte b).cyc = s.cyc + 1 := by
  simp [State.fetchByte]
@[simp] theorem State.fetchByte_bus (s : State) (b : Byte) :
    (s.fetchByte b).bus = { cyc := s.cyc, addr := s.pc, data := b, dir := .read, sync := false, vp := false } :: s.bus := by
  simp [State.fetchByte]
@[simp] theorem State.fetchByte_inputs (s : State) (b : Byte) :
    (s.fetchByte b).inputs = s.inputs := by
  simp [State.fetchByte]
@[simp] theorem State.fetchByte_cfg (s : State) (b : Byte) : (s.fetchByte b).cfg = s.cfg := by
  simp [State.fetchByte]

/-! A push (20_memory.md R60). -/

@[simp] theorem State.push_r (s : State) (v : Byte) :
    (s.push v).r = { s.r with sp := s.r.sp - 1#8 } := by
  simp [State.push]
@[simp] theorem State.push_pc (s : State) (v : Byte) : (s.push v).pc = s.pc := by
  simp [State.push]
@[simp] theorem State.push_mem (s : State) (v : Byte) :
    (s.push v).mem = storeByte s.cfg.memcfg s.mem (stackAddr s.r.sp) v := by
  simp [State.push]
@[simp] theorem State.push_nmiPending (s : State) (v : Byte) :
    (s.push v).nmiPending = s.nmiPending := by
  simp [State.push]
@[simp] theorem State.push_irqLine (s : State) (v : Byte) : (s.push v).irqLine = s.irqLine := by
  simp [State.push]
@[simp] theorem State.push_svc (s : State) (v : Byte) : (s.push v).svc = s.svc := by
  simp [State.push]
@[simp] theorem State.push_run (s : State) (v : Byte) : (s.push v).run = s.run := by
  simp [State.push]
@[simp] theorem State.push_t (s : State) (v : Byte) : (s.push v).t = s.t := by
  simp [State.push]
@[simp] theorem State.push_seq (s : State) (v : Byte) : (s.push v).seq = s.seq := by
  simp [State.push]
@[simp] theorem State.push_lat (s : State) (v : Byte) : (s.push v).lat = s.lat := by
  simp [State.push]
@[simp] theorem State.push_cyc (s : State) (v : Byte) : (s.push v).cyc = s.cyc + 1 := by
  simp [State.push]
@[simp] theorem State.push_bus (s : State) (v : Byte) :
    (s.push v).bus = { cyc := s.cyc, addr := stackAddr s.r.sp, data := v, dir := .write, sync := false, vp := false } :: s.bus := by
  simp [State.push]
@[simp] theorem State.push_inputs (s : State) (v : Byte) : (s.push v).inputs = s.inputs := by
  simp [State.push]
@[simp] theorem State.push_cfg (s : State) (v : Byte) : (s.push v).cfg = s.cfg := by
  simp [State.push]

/-! The end of a cycle (40_addressing_and_bus_cycles.md R110 step 5). -/

@[simp] theorem State.more_r (s : State) : (s.more).r = s.r := rfl
@[simp] theorem State.more_pc (s : State) : (s.more).pc = s.pc := rfl
@[simp] theorem State.more_mem (s : State) : (s.more).mem = s.mem := rfl
@[simp] theorem State.more_nmiPending (s : State) : (s.more).nmiPending = s.nmiPending := rfl
@[simp] theorem State.more_irqLine (s : State) : (s.more).irqLine = s.irqLine := rfl
@[simp] theorem State.more_svc (s : State) : (s.more).svc = s.svc := rfl
@[simp] theorem State.more_run (s : State) : (s.more).run = s.run := rfl
@[simp] theorem State.more_t (s : State) : (s.more).t = s.t + 1 := rfl
@[simp] theorem State.more_seq (s : State) : (s.more).seq = s.seq := rfl
@[simp] theorem State.more_lat (s : State) : (s.more).lat = s.lat := rfl
@[simp] theorem State.more_cyc (s : State) : (s.more).cyc = s.cyc := rfl
@[simp] theorem State.more_bus (s : State) : (s.more).bus = s.bus := rfl
@[simp] theorem State.more_events (s : State) : (s.more).events = s.events := rfl
@[simp] theorem State.more_inputs (s : State) : (s.more).inputs = s.inputs := rfl
@[simp] theorem State.more_cfg (s : State) : (s.more).cfg = s.cfg := rfl

@[simp] theorem State.last_r (s : State) : (s.last).r = s.r := rfl
@[simp] theorem State.last_pc (s : State) : (s.last).pc = s.pc := rfl
@[simp] theorem State.last_mem (s : State) : (s.last).mem = s.mem := rfl
@[simp] theorem State.last_nmiPending (s : State) : (s.last).nmiPending = s.nmiPending := rfl
@[simp] theorem State.last_irqLine (s : State) : (s.last).irqLine = s.irqLine := rfl
@[simp] theorem State.last_svc (s : State) : (s.last).svc = s.svc := rfl
@[simp] theorem State.last_run (s : State) : (s.last).run = s.run := rfl
@[simp] theorem State.last_t (s : State) : (s.last).t = 1 := rfl
@[simp] theorem State.last_seq (s : State) : (s.last).seq = .instr := rfl
@[simp] theorem State.last_lat (s : State) : (s.last).lat = s.lat := rfl
@[simp] theorem State.last_cyc (s : State) : (s.last).cyc = s.cyc := rfl
@[simp] theorem State.last_bus (s : State) : (s.last).bus = s.bus := rfl
@[simp] theorem State.last_events (s : State) : (s.last).events = s.events := rfl
@[simp] theorem State.last_inputs (s : State) : (s.last).inputs = s.inputs := rfl
@[simp] theorem State.last_cfg (s : State) : (s.last).cfg = s.cfg := rfl

@[simp] theorem State.idleCycle_r (s : State) : (s.idleCycle).r = s.r := by
  simp [State.idleCycle]
@[simp] theorem State.idleCycle_pc (s : State) : (s.idleCycle).pc = s.pc := by
  simp [State.idleCycle]
@[simp] theorem State.idleCycle_mem (s : State) : (s.idleCycle).mem = s.mem := by
  simp [State.idleCycle]
@[simp] theorem State.idleCycle_nmiPending (s : State) :
    (s.idleCycle).nmiPending = s.nmiPending := by
  simp [State.idleCycle]
@[simp] theorem State.idleCycle_irqLine (s : State) : (s.idleCycle).irqLine = s.irqLine := by
  simp [State.idleCycle]
@[simp] theorem State.idleCycle_svc (s : State) : (s.idleCycle).svc = s.svc := by
  simp [State.idleCycle]
@[simp] theorem State.idleCycle_run (s : State) : (s.idleCycle).run = s.run := by
  simp [State.idleCycle]
@[simp] theorem State.idleCycle_t (s : State) : (s.idleCycle).t = s.t := by
  simp [State.idleCycle]
@[simp] theorem State.idleCycle_seq (s : State) : (s.idleCycle).seq = s.seq := by
  simp [State.idleCycle]
@[simp] theorem State.idleCycle_lat (s : State) : (s.idleCycle).lat = s.lat := by
  simp [State.idleCycle]
@[simp] theorem State.idleCycle_cyc (s : State) : (s.idleCycle).cyc = s.cyc + 1 := by
  simp [State.idleCycle]
@[simp] theorem State.idleCycle_bus (s : State) :
    (s.idleCycle).bus = { cyc := s.cyc, addr := s.dummyAddr .da21 s.pc, data := s.memRead (s.dummyAddr .da21 s.pc), dir := .read, sync := false, vp := false } :: s.bus := by
  simp [State.idleCycle]
@[simp] theorem State.idleCycle_inputs (s : State) : (s.idleCycle).inputs = s.inputs := by
  simp [State.idleCycle]
@[simp] theorem State.idleCycle_cfg (s : State) : (s.idleCycle).cfg = s.cfg := by
  simp [State.idleCycle]

/-! The latching of the inputs (60_exceptions.md R344). -/

@[simp] theorem State.latchInputs_r (s : State) :
    (s.latchInputs).r = s.r := by
  unfold State.latchInputs; split <;> rfl
@[simp] theorem State.latchInputs_pc (s : State) :
    (s.latchInputs).pc = s.pc := by
  unfold State.latchInputs; split <;> rfl
@[simp] theorem State.latchInputs_mem (s : State) :
    (s.latchInputs).mem = s.mem := by
  unfold State.latchInputs; split <;> rfl
@[simp] theorem State.latchInputs_svc (s : State) :
    (s.latchInputs).svc = s.svc := by
  unfold State.latchInputs; split <;> rfl
@[simp] theorem State.latchInputs_run (s : State) :
    (s.latchInputs).run = s.run := by
  unfold State.latchInputs; split <;> rfl
@[simp] theorem State.latchInputs_t (s : State) :
    (s.latchInputs).t = s.t := by
  unfold State.latchInputs; split <;> rfl
@[simp] theorem State.latchInputs_seq (s : State) :
    (s.latchInputs).seq = s.seq := by
  unfold State.latchInputs; split <;> rfl
@[simp] theorem State.latchInputs_lat (s : State) :
    (s.latchInputs).lat = s.lat := by
  unfold State.latchInputs; split <;> rfl
@[simp] theorem State.latchInputs_cyc (s : State) :
    (s.latchInputs).cyc = s.cyc := by
  unfold State.latchInputs; split <;> rfl
@[simp] theorem State.latchInputs_bus (s : State) :
    (s.latchInputs).bus = s.bus := by
  unfold State.latchInputs; split <;> rfl
@[simp] theorem State.latchInputs_events (s : State) :
    (s.latchInputs).events = s.events := by
  unfold State.latchInputs; split <;> rfl
@[simp] theorem State.latchInputs_cfg (s : State) :
    (s.latchInputs).cfg = s.cfg := by
  unfold State.latchInputs; split <;> rfl

@[simp] theorem State.latchInputs_inputs (s : State) : s.latchInputs.inputs = s.inputs.tail := by
  unfold State.latchInputs; split <;> rename_i h <;> simp [h]

/-- The NMI edge and the IRQ level of the coming tick; {0, 0} when the list has run out. -/
theorem State.latchInputs_nmiPending (s : State) :
    s.latchInputs.nmiPending = (s.nmiPending || (s.inputs.headD ⟨false, false⟩).nmiEdge) := by
  unfold State.latchInputs; split <;> rename_i h <;> simp [h]

theorem State.latchInputs_irqLine (s : State) :
    s.latchInputs.irqLine = (s.inputs.headD ⟨false, false⟩).irq := by
  unfold State.latchInputs; split <;> rename_i h <;> simp [h]

/-- What a read returns depends on the memory and the configuration alone (20_memory.md R55, R57). -/
theorem State.memRead_congr {s t : State} (hm : t.mem = s.mem) (hc : t.cfg = s.cfg) (a : Word) :
    t.memRead a = s.memRead a := by simp [State.memRead, hm, hc]

end Sys2Proof.Machine
end

