-- ==== Sys2Proof/Laws/Templates.lean ====
section
/-! SUPPORT. What each cycle template does, said once: for every micro-op program, what `runInstr` answers and the bus
cycles it emits (40_addressing_and_bus_cycles.md R118 to R151), and the same for an interrupt sequence
(60_exceptions.md R349). Later proofs cite these lemmas and never unfold a cycle row. -/

set_option linter.unusedSimpArgs false

namespace Sys2Proof.Machine

/-! Address arithmetic of the templates. -/

@[simp] theorem word_add_1_1 (w : Word) : w + 1#16 + 1#16 = w + 2#16 := by rw [BitVec.add_assoc]; rfl
@[simp] theorem word_add_2_1 (w : Word) : w + 2#16 + 1#16 = w + 3#16 := by rw [BitVec.add_assoc]; rfl
@[simp] theorem word_add_2_sub_1 (w : Word) : w + 2#16 - 1#16 = w + 1#16 := by
  rw [BitVec.sub_eq_add_neg, BitVec.add_assoc]; rfl
@[simp] theorem word_add_3_sub_1 (w : Word) : w + 3#16 - 1#16 = w + 2#16 := by
  rw [BitVec.sub_eq_add_neg, BitVec.add_assoc]; rfl
@[simp] theorem byte_add_1_1 (b : Byte) : b + 1#8 + 1#8 = b + 2#8 := by rw [BitVec.add_assoc]; rfl
@[simp] theorem byte_add_2_1 (b : Byte) : b + 2#8 + 1#8 = b + 3#8 := by rw [BitVec.add_assoc]; rfl
@[simp] theorem byte_sub_1_1 (b : Byte) : b - 1#8 - 1#8 = b - 2#8 := by
  rw [BitVec.sub_sub]; rfl
@[simp] theorem byte_sub_2_1 (b : Byte) : b - 2#8 - 1#8 = b - 3#8 := by
  rw [BitVec.sub_sub]; rfl

/-! The host's view: only the latching of the inputs, and the start of an NMI sequence, change it. -/

@[simp] theorem State.host_withR (s : State) (v : Regs) : (s.withR v).host = s.host := rfl
@[simp] theorem State.host_withPc (s : State) (v : Word) : (s.withPc v).host = s.host := rfl
@[simp] theorem State.host_withMem (s : State) (v : Memory) : (s.withMem v).host = s.host := rfl
@[simp] theorem State.host_withSvc (s : State) (v : Svc) : (s.withSvc v).host = s.host := rfl
@[simp] theorem State.host_withRun (s : State) (v : RunMode) : (s.withRun v).host = s.host := rfl
@[simp] theorem State.host_withT (s : State) (v : Nat) : (s.withT v).host = s.host := rfl
@[simp] theorem State.host_withSeq (s : State) (v : Seq) : (s.withSeq v).host = s.host := rfl
@[simp] theorem State.host_withLat (s : State) (v : Latches) : (s.withLat v).host = s.host := rfl
@[simp] theorem State.host_withCyc (s : State) (v : Nat) : (s.withCyc v).host = s.host := rfl
@[simp] theorem State.host_withBus (s : State) (v : List BusCycle) : (s.withBus v).host = s.host := rfl
@[simp] theorem State.host_withEvents (s : State) (v : List PolicyEvent) : (s.withEvents v).host = s.host := rfl
@[simp] theorem State.host_withNmiPending (s : State) (v : Bool) :
    (s.withNmiPending v).host = { s.host with nmiPending := v } := rfl
@[simp] theorem State.host_readCycle (s : State) (a : Word) (v : Byte) (y p : Bool) : (s.readCycle a v y p).host = s.host := by
  simp [State.host]
@[simp] theorem State.host_busRead (s : State) (a : Word) : (s.busRead a).host = s.host := by
  simp [State.host]
@[simp] theorem State.host_vectorRead (s : State) (a : Word) : (s.vectorRead a).host = s.host := by
  simp [State.host]
@[simp] theorem State.host_dummyRead (s : State) (d : Dummy) (a : Word) : (s.dummyRead d a).host = s.host := by
  simp [State.host]
@[simp] theorem State.host_dummySyncRead (s : State) (d : Dummy) (a : Word) : (s.dummySyncRead d a).host = s.host := by
  simp [State.host]
@[simp] theorem State.host_busWrite (s : State) (a : Word) (v : Byte) : (s.busWrite a v).host = s.host := by
  simp [State.host]
@[simp] theorem State.host_fetchByte (s : State) (b : Byte) : (s.fetchByte b).host = s.host := by
  simp [State.host]
@[simp] theorem State.host_push (s : State) (v : Byte) : (s.push v).host = s.host := by
  simp [State.host]
@[simp] theorem State.host_more (s : State) : (s.more).host = s.host := by
  simp [State.host]
@[simp] theorem State.host_last (s : State) : (s.last).host = s.host := by
  simp [State.host]
@[simp] theorem State.host_idleCycle (s : State) : (s.idleCycle).host = s.host := by
  simp [State.host]

@[simp] theorem State.host_latchInputs (s : State) : s.latchInputs.host = s.host.latch := by
  simp [State.host, HostView.latch, State.latchInputs_nmiPending, State.latchInputs_irqLine]

theorem HostView.latches_succ (n : Nat) (h : HostView) : HostView.latches (n + 1) h = (HostView.latches n h).latch := by
  induction n generalizing h with
  | zero => rfl
  | succ n ih => exact ih h.latch

/-- The view of the core with its inputs taken from the host's view, whose lemmas are above. -/
theorem State.view_eq (s : State) : s.view =
    { r := s.r, pc := s.pc, mem := s.mem, nmiPending := s.host.nmiPending, irqLine := s.host.irqLine, svc := s.svc,
      run := s.run, t := s.t, seq := s.seq, lat := s.lat, cyc := s.cyc } := rfl

/-! The run of cycles. -/

theorem runCycles_boundary (k : Nat) (p : MicroProgram) (st : State → Byte) (s : State) (h : s.t = 1) :
    runCycles k p st s = s := by
  cases k <;> simp [runCycles, h]

theorem runCycles_cycle (k : Nat) (p : MicroProgram) (st : State → Byte) (s : State) (h : s.t ≠ 1) :
    runCycles (k + 1) p st s = runCycles k p st (nextCycle p st s) := by
  simp [runCycles, h]

theorem operandStream_eq (i : Instr) (s : State) : operandStream i s = if s.t = 2 then i.op1 else i.op2 := rfl

@[simp] theorem State.fetchCycle_eq (s : State) (o : Byte) :
    s.fetchCycle o = ((((s.readCycle s.pc o true false).withPc (s.pc + 1#16)).withLat
      { s.lat with ir := o, dec := s.r.p.d }).withSeq .instr).withT 2 := rfl

/-! The addressing cycles of the data modes. -/

/-- `n` addressing cycles, one after another. -/
def addressCycles (m : DataMode) (always : Bool) (b1 b2 : Byte) (n : Nat) (s : State) : State :=
  match n with
  | 0 => s
  | k + 1 => addressCycles m always b1 b2 k (s.latchInputs.addressRow m always (if s.t = 2 then b1 else b2)).more

/-- The state after the addressing cycles: the effective address stands in EA, and nothing the instruction reads or
writes has changed but PC (R120 to R138). -/
structure Addressed (s a : State) (i : Instr) (m : DataMode) (always : Bool) : Prop where
  t : a.t = lastAddressCycle m always (s.crosses m i.op1) + 1
  last : lastAddressCycle m always a.lat.cross = lastAddressCycle m always (s.crosses m i.op1)
  regs : a.r = s.r
  pc : a.pc = s.after m.bytes
  mem : a.mem = s.mem
  run : a.run = s.run
  svc : a.svc = s.svc
  cfg : a.cfg = s.cfg
  seq : a.seq = .instr
  lat : a.lat = s.addressLatches i m
  cyc : a.cyc = s.cyc + (s.traceAddress i m always).length + 1
  host : a.host = s.host.latches (s.traceAddress i m always).length
  bus : a.bus = (records s.cyc (s.rdOpcode i :: s.traceAddress i m always)).reverse ++ s.bus

theorem addressed (s : State) (i : Instr) (m : DataMode) (always : Bool) :
    Addressed s (addressCycles m always i.op1 i.op2 (s.traceAddress i m always).length (s.fetchCycle (opcodeOf i)))
      i m always := by
  cases h : s.crosses m i.op1 <;> cases always <;> cases m <;>
    first
    | (simp [State.crosses] at h; done)
    | skip
  all_goals
    have h' := h
    simp only [State.crosses, State.pointerLo, State.memRead, zpAddr] at h'
    constructor <;>
      simp [addressCycles, State.addressRow, State.traceAddress, State.traceAddress.indexing, h, h', State.rowZpa,
          State.rowAdl, State.rowAdhEa, State.rowAdhIndexed, State.rowAbsIndexing, State.rowPointerLo,
          State.rowPointerHi, State.rowPointerHiY, State.rowIzyIndexing, State.pointerLo, State.pointerHi,
          State.memRead, State.effAddr, zpIndexed, lastAddressCycle, DataMode.bytes, State.after, HostView.latches,
          records, State.rdOpcode, State.rdMem, State.rdDummy, State.dummyAddr, State.view_eq,
          State.during, State.fetched, zpAddr, rd, State.addressLatches, State.rdIndexing]

/-- One addressing cycle of a program whose first cycles are those of a data mode. -/
theorem runCycles_address (i : Instr) (m : DataMode) (always : Bool) (p : MicroProgram)
    (hp : ∀ (b : Byte) (x : State), x.t ≤ lastAddressCycle m always x.lat.cross →
      cycleRow p b x = (x.addressRow m always b).more) (k : Nat) (s : State) (h1 : s.t ≠ 1)
    (hle : s.t ≤ lastAddressCycle m always s.lat.cross) :
    runCycles (k + 1) p (operandStream i) s =
      runCycles k p (operandStream i) (s.latchInputs.addressRow m always (if s.t = 2 then i.op1 else i.op2)).more := by
  rw [runCycles_cycle _ _ _ _ h1, nextCycle, hp _ _ (by simpa using hle), operandStream_eq, State.latchInputs_t]

/-- A program whose first cycles are the addressing cycles of a data mode performs exactly those. -/
theorem runCycles_addressing (s : State) (i : Instr) (m : DataMode) (always : Bool) (p : MicroProgram) (k : Nat)
    (hp : ∀ (b : Byte) (x : State), x.t ≤ lastAddressCycle m always x.lat.cross →
      cycleRow p b x = (x.addressRow m always b).more) :
    runCycles (k + (s.traceAddress i m always).length) p (operandStream i) (s.fetchCycle (opcodeOf i)) =
      runCycles k p (operandStream i)
        (addressCycles m always i.op1 i.op2 (s.traceAddress i m always).length (s.fetchCycle (opcodeOf i))) := by
  cases h : s.crosses m i.op1 <;> cases always <;> cases m <;>
    first
    | (simp [State.crosses] at h; done)
    | skip
  all_goals
    have h' := h
    simp only [State.crosses, State.pointerLo, State.memRead, zpAddr] at h'
    simp only [State.traceAddress, State.traceAddress.indexing, h, List.length, List.length_append, List.length_cons,
      List.length_nil, if_true, if_false, Bool.false_eq_true]
    simp only [Nat.reduceAdd, addressCycles]
    repeat
      rw [runCycles_address i _ _ p hp _ _ (by simp [State.addressRow, State.rowZpa, State.rowAdl, State.rowAdhEa,
          State.rowAdhIndexed, State.rowPointerLo, State.rowPointerHi, State.rowPointerHiY])
        (by simp [State.addressRow, h', State.rowZpa, State.rowAdl, State.rowAdhEa, State.rowAdhIndexed,
            State.rowPointerLo, State.rowPointerHi, State.rowPointerHiY, State.pointerLo, State.memRead, zpAddr,
            lastAddressCycle] <;> split <;> omega)]

theorem State.traceAddress_length_le (s : State) (i : Instr) (m : DataMode) (always : Bool) :
    (s.traceAddress i m always).length ≤ 4 := by
  cases h : s.crosses m i.op1 <;> cases always <;> cases m <;>
    simp [State.traceAddress, State.traceAddress.indexing, h]

/-- The run of a program with a data mode from its fetch cycle: the addressing cycles first. -/
theorem runInstr_addressed (s : State) (i : Instr) (m : DataMode) (always : Bool) (p : MicroProgram)
    (hp : ∀ (b : Byte) (x : State), x.t ≤ lastAddressCycle m always x.lat.cross →
      cycleRow p b x = (x.addressRow m always b).more) :
    ∃ (k : Nat) (a : State), Addressed s a i m always ∧
      runInstr i p s = .next (runCycles (k + 4) p (operandStream i) a) := by
  refine ⟨4 - (s.traceAddress i m always).length, _, addressed s i m always, ?_⟩
  have hle := s.traceAddress_length_le i m always
  rw [← runCycles_addressing s i m always p _ hp, runInstr, cycleBound]
  congr 2; omega

theorem lastAddressCycle_pos (m : DataMode) (always cross : Bool) : 1 ≤ lastAddressCycle m always cross := by
  cases m <;> simp [lastAddressCycle] <;> split <;> omega

theorem State.addressLatches_dec (s : State) (i : Instr) (m : DataMode) : (s.addressLatches i m).dec = s.r.p.d := by
  cases m <;> rfl

theorem Addressed.ea {s a : State} {i : Instr} {m : DataMode} {always : Bool} (A : Addressed s a i m always) :
    a.lat.ea = s.effAddr m i.op1 i.op2 := by rw [A.lat]; rfl

theorem Addressed.dec {s a : State} {i : Instr} {m : DataMode} {always : Bool} (A : Addressed s a i m always) :
    a.lat.dec = s.r.p.d := by rw [A.lat, State.addressLatches_dec]

theorem Addressed.t_ne {s a : State} {i : Instr} {m : DataMode} {always : Bool} (A : Addressed s a i m always) :
    a.t ≠ 1 := by
  have := lastAddressCycle_pos m always (s.crosses m i.op1)
  rw [A.t]; omega

theorem Addressed.memRead {s a : State} {i : Instr} {m : DataMode} {always : Bool} (A : Addressed s a i m always)
    (x : Word) : readByte a.cfg.memcfg a.mem x = s.memRead x := by rw [A.mem, A.cfg]; rfl

theorem records_append (c : Nat) (l l' : List Access) :
    records c (l ++ l') = records c l ++ records (c + l.length) l' := by
  induction l generalizing c with
  | nil => rfl
  | cons a l ih => simp [records, ih]; congr 1; omega

theorem records_length (c : Nat) (l : List Access) : (records c l).length = l.length := by
  induction l generalizing c with
  | nil => rfl
  | cons a l ih => simp [records, ih]

theorem lastAddressCycle_eq (s : State) (i : Instr) (m : DataMode) (always : Bool) :
    lastAddressCycle m always (s.crosses m i.op1) = (s.traceAddress i m always).length + 1 := by
  cases h : s.crosses m i.op1 <;> cases always <;> cases m <;>
    first
    | (simp [State.crosses] at h; done)
    | simp [State.traceAddress, State.traceAddress.indexing, h, lastAddressCycle]

/-- Every read template, with the decimal cycle of ADC and SBC (R120, R123, R126, R129, R133, R135, R137, R151). -/
theorem runInstr_read (s : State) (i : Instr) (m : DataMode) (decimal : Bool) (op : Byte → Regs → Regs) :
    ∃ t, runInstr i (.read m decimal op) s = .next t ∧
      Leaves s t (op (s.memRead (s.effAddr m i.op1 i.op2)) s.r) (s.after m.bytes) s.mem s.run s.svc s.host
        ((s.traceAddress i m false).length + 2 + (decimal && s.r.p.d).toNat) ∧
      Emits s t (s.rdOpcode i :: (s.traceAddress i m false ++ [s.rdMem (s.effAddr m i.op1 i.op2)] ++
        (if decimal && s.r.p.d then
          [s.rdDummy (s.afterData i m ((s.traceAddress i m false).length + 2)) .da19 (s.effAddr m i.op1 i.op2)]
        else []))) := by
  obtain ⟨k, a, A, h⟩ := runInstr_addressed s i m false (.read m decimal op)
    (fun b x hx => by simp [cycleRow, State.readRow, hx])
  refine ⟨_, h, ?_⟩
  rw [runCycles_cycle _ _ _ _ A.t_ne]
  cases hd : decimal && s.r.p.d
  · rw [runCycles_boundary _ _ _ _
      (by simp [nextCycle, cycleRow, State.readRow, State.dataReadRow, A.t, A.last, A.dec, hd])]
    constructor
    · constructor <;> simp [nextCycle, cycleRow, State.readRow, State.dataReadRow, A.t, A.last, A.dec, hd, A.regs,
        A.pc, A.mem, A.run, A.svc, A.cfg, A.cyc, A.ea, A.host, HostView.latches_succ, State.memRead]
      omega
    · simp [Emits, nextCycle, cycleRow, State.readRow, State.dataReadRow, A.t, A.last, A.dec, hd, A.bus, A.cyc, A.ea,
        A.mem, A.cfg, records, records_append, Nat.add_assoc, State.rdMem, rd, State.memRead]
      omega
  · rw [runCycles_cycle _ _ _ _ (by
        have := lastAddressCycle_pos m false (s.crosses m i.op1)
        simp [nextCycle, cycleRow, State.readRow, State.dataReadRow, A.t, A.last, A.dec, hd])]
    rw [runCycles_boundary _ _ _ _
      (by simp [nextCycle, cycleRow, State.readRow, State.dataReadRow, State.decimalRow, A.t, A.last, A.dec, hd])]
    constructor
    · constructor <;> simp [nextCycle, cycleRow, State.readRow, State.dataReadRow, State.decimalRow, A.t, A.last,
        A.dec, hd, A.regs, A.pc, A.mem, A.run, A.svc, A.cfg, A.cyc, A.ea, A.host, HostView.latches_succ,
        State.memRead]
      omega
    · simp [Emits, nextCycle, cycleRow, State.readRow, State.dataReadRow, State.decimalRow, A.t, A.last, A.dec, hd,
        A.bus, A.cyc, A.ea, A.mem, A.cfg, records, records_append, Nat.add_assoc, State.rdMem, State.rdDummy,
        State.dummyAddr, State.view_eq, State.during, State.fetched, rd, State.memRead, State.afterData]
      simp only [A.lat, A.regs, A.pc, A.host, A.svc, A.run, A.seq, lastAddressCycle_eq, HostView.latches_succ,
        State.addressLatches_dec]
      exact ⟨⟨by omega, rfl, rfl⟩, by omega⟩

/-- Every store template (R121, R124, R127, R130, R134, R136, R138). -/
theorem runInstr_write (s : State) (i : Instr) (m : DataMode) (v : Regs → Byte) :
    ∃ t, runInstr i (.write m v) s = .next t ∧
      Leaves s t s.r (s.after m.bytes) (storeByte s.cfg.memcfg s.mem (s.effAddr m i.op1 i.op2) (v s.r)) s.run s.svc
        s.host ((s.traceAddress i m true).length + 2) ∧
      Emits s t (s.rdOpcode i :: (s.traceAddress i m true ++ [wr (s.effAddr m i.op1 i.op2) (v s.r)])) := by
  obtain ⟨k, a, A, h⟩ := runInstr_addressed s i m true (.write m v)
    (fun b x hx => by simp [cycleRow, State.writeRow, hx])
  refine ⟨_, h, ?_⟩
  rw [runCycles_cycle _ _ _ _ A.t_ne]
  rw [runCycles_boundary _ _ _ _ (by simp [nextCycle, cycleRow, State.writeRow, A.t, A.last])]
  constructor
  · constructor <;> simp [nextCycle, cycleRow, State.writeRow, A.t, A.last, A.regs, A.pc, A.mem, A.run, A.svc, A.cfg,
      A.cyc, A.ea, A.host, HostView.latches_succ]
    omega
  · simp [Emits, nextCycle, cycleRow, State.writeRow, A.t, A.last, A.bus, A.cyc, A.ea, A.regs, records,
      records_append, Nat.add_assoc, wr]
    omega

/-- Every read-modify-write template (R122, R125, R128, R131, R132). -/
theorem runInstr_modify (s : State) (i : Instr) (m : DataMode) (always : Bool) (res : Byte → Regs → Byte)
    (fl : Byte → Regs → Flags) :
    ∃ t, runInstr i (.modify m always res fl) s = .next t ∧
      Leaves s t { s.r with p := fl (s.memRead (s.effAddr m i.op1 i.op2)) s.r } (s.after m.bytes)
        (storeByte s.cfg.memcfg s.mem (s.effAddr m i.op1 i.op2) (res (s.memRead (s.effAddr m i.op1 i.op2)) s.r)) s.run
        s.svc s.host ((s.traceAddress i m always).length + 4) ∧
      Emits s t (s.rdOpcode i :: (s.traceAddress i m always ++ [s.rdMem (s.effAddr m i.op1 i.op2),
        s.rdDummy (s.afterData i m ((s.traceAddress i m always).length + 2)) .da3 (s.effAddr m i.op1 i.op2),
        wr (s.effAddr m i.op1 i.op2) (res (s.memRead (s.effAddr m i.op1 i.op2)) s.r)])) := by
  obtain ⟨k, a, A, h⟩ := runInstr_addressed s i m always (.modify m always res fl)
    (fun b x hx => by simp [cycleRow, State.modifyRow, hx])
  refine ⟨_, h, ?_⟩
  have h1 : ∀ n : Nat, ¬ (n + 1 + 1 < n) := fun n => by omega
  have h2 : ∀ n : Nat, ¬ (n + 1 + 1 = n) := fun n => by omega
  rw [runCycles_cycle _ _ _ _ A.t_ne]
  rw [runCycles_cycle _ _ _ _ (by simp [nextCycle, cycleRow, State.modifyRow, h1, h2, A.t, A.last])]
  rw [runCycles_cycle _ _ _ _ (by simp [nextCycle, cycleRow, State.modifyRow, h1, h2, A.t, A.last])]
  rw [runCycles_boundary _ _ _ _ (by simp [nextCycle, cycleRow, State.modifyRow, h1, h2, A.t, A.last])]
  constructor
  · constructor <;> simp [nextCycle, cycleRow, State.modifyRow, h1, h2, A.t, A.last, A.regs, A.pc, A.mem, A.run,
      A.svc, A.cfg, A.cyc, A.ea, A.host, HostView.latches_succ, State.memRead]
    omega
  · simp [Emits, nextCycle, cycleRow, State.modifyRow, h1, h2, A.t, A.last, A.bus, A.cyc, A.ea, A.regs, A.mem, A.cfg,
      records, records_append, Nat.add_assoc, State.rdMem, State.rdDummy, State.dummyAddr, State.view_eq,
      State.during, State.fetched, rd, wr, State.memRead, State.afterData]
    simp only [A.lat, A.pc, A.host, A.svc, A.run, A.seq, lastAddressCycle_eq, HostView.latches_succ,
      State.addressLatches_dec]
    exact ⟨by omega, ⟨by omega, rfl, rfl⟩, by omega⟩

/-- T_IMP (R118). -/
theorem runInstr_imp (s : State) (i : Instr) (op : Regs → Regs) :
    ∃ t, runInstr i (.imp op) s = .next t ∧
      Leaves s t (op s.r) (s.after 1) s.mem s.run s.svc s.host 2 ∧
      Emits s t (s.rdOpcode i :: [s.rdDummy (s.during 1 (s.after 1) (s.fetched i)) .da1 (s.after 1)]) := by
  refine ⟨_, rfl, ?_⟩
  simp only [cycleBound]
  rw [runCycles_cycle _ _ _ _ (by simp [nextCycle, cycleRow, State.impRow, State.after, State.rdOpcode, State.rdMem,
      State.rdDummy, State.dummyAddr, State.view_eq, State.during, State.fetched, rd, wr, records, HostView.latches,
      State.memRead, operandStream_eq, zpAddr, stackAddr])]
  rw [runCycles_boundary _ _ _ _ (by simp [nextCycle, cycleRow, State.impRow, State.after, State.rdOpcode,
      State.rdMem, State.rdDummy, State.dummyAddr, State.view_eq, State.during, State.fetched, rd, wr, records,
      HostView.latches, State.memRead, operandStream_eq, zpAddr, stackAddr])]
  constructor
  · constructor <;> simp [nextCycle, cycleRow, State.impRow, State.after, State.rdOpcode, State.rdMem, State.rdDummy,
      State.dummyAddr, State.view_eq, State.during, State.fetched, rd, wr, records, HostView.latches, State.memRead,
      operandStream_eq, zpAddr, stackAddr]
  · simp [Emits, nextCycle, cycleRow, State.impRow, State.after, State.rdOpcode, State.rdMem, State.rdDummy,
      State.dummyAddr, State.view_eq, State.during, State.fetched, rd, wr, records, HostView.latches, State.memRead,
      operandStream_eq, zpAddr, stackAddr]

/-- T_IMM outside decimal mode (R119). -/
theorem runInstr_imm (s : State) (i : Instr) (decimal : Bool) (op : Byte → Regs → Regs) (hd : (decimal && s.r.p.d) =
    false) :
    ∃ t, runInstr i (.imm decimal op) s = .next t ∧
      Leaves s t (op i.op1 s.r) (s.after 2) s.mem s.run s.svc s.host 2 ∧
      Emits s t (s.rdOpcode i :: [rd (s.after 1) i.op1]) := by
  refine ⟨_, rfl, ?_⟩
  simp only [cycleBound]
  rw [runCycles_cycle _ _ _ _ (by simp [nextCycle, cycleRow, State.immRow, State.after, State.rdOpcode, State.rdMem,
      State.rdDummy, State.dummyAddr, State.view_eq, State.during, State.fetched, rd, wr, records, HostView.latches,
      State.memRead, operandStream_eq, zpAddr, stackAddr, hd])]
  rw [runCycles_boundary _ _ _ _ (by simp [nextCycle, cycleRow, State.immRow, State.after, State.rdOpcode,
      State.rdMem, State.rdDummy, State.dummyAddr, State.view_eq, State.during, State.fetched, rd, wr, records,
      HostView.latches, State.memRead, operandStream_eq, zpAddr, stackAddr, hd])]
  constructor
  · constructor <;> simp [nextCycle, cycleRow, State.immRow, State.after, State.rdOpcode, State.rdMem, State.rdDummy,
      State.dummyAddr, State.view_eq, State.during, State.fetched, rd, wr, records, HostView.latches, State.memRead,
      operandStream_eq, zpAddr, stackAddr, hd]
  · simp [Emits, nextCycle, cycleRow, State.immRow, State.after, State.rdOpcode, State.rdMem, State.rdDummy,
      State.dummyAddr, State.view_eq, State.during, State.fetched, rd, wr, records, HostView.latches, State.memRead,
      operandStream_eq, zpAddr, stackAddr, hd]

/-- T_IMM of ADC and SBC in decimal mode (R119, R151). -/
theorem runInstr_imm_decimal (s : State) (i : Instr) (op : Byte → Regs → Regs) (hd : s.r.p.d = true) :
    ∃ t, runInstr i (.imm true op) s = .next t ∧
      Leaves s t (op i.op1 s.r) (s.after 2) s.mem s.run s.svc s.host 3 ∧
      Emits s t (s.rdOpcode i :: [rd (s.after 1) i.op1,
        s.rdDummy (s.during 2 (s.after 2) { s.fetched i with dl := i.op1 }) .da19 (s.after 1)]) := by
  refine ⟨_, rfl, ?_⟩
  simp only [cycleBound]
  iterate 2 rw [runCycles_cycle _ _ _ _ (by simp [nextCycle, cycleRow, State.immRow, State.after, State.rdOpcode,
      State.rdMem, State.rdDummy, State.dummyAddr, State.view_eq, State.during, State.fetched, rd, wr, records,
      HostView.latches, State.memRead, operandStream_eq, zpAddr, stackAddr, hd])]
  rw [runCycles_boundary _ _ _ _ (by simp [nextCycle, cycleRow, State.immRow, State.after, State.rdOpcode,
      State.rdMem, State.rdDummy, State.dummyAddr, State.view_eq, State.during, State.fetched, rd, wr, records,
      HostView.latches, State.memRead, operandStream_eq, zpAddr, stackAddr, hd])]
  constructor
  · constructor <;> simp [nextCycle, cycleRow, State.immRow, State.after, State.rdOpcode, State.rdMem, State.rdDummy,
      State.dummyAddr, State.view_eq, State.during, State.fetched, rd, wr, records, HostView.latches, State.memRead,
      operandStream_eq, zpAddr, stackAddr, hd]
  · simp [Emits, nextCycle, cycleRow, State.immRow, State.after, State.rdOpcode, State.rdMem, State.rdDummy,
      State.dummyAddr, State.view_eq, State.during, State.fetched, rd, wr, records, HostView.latches, State.memRead,
      operandStream_eq, zpAddr, stackAddr, hd]

/-- T_REL, not taken (R139). -/
theorem runInstr_branch_not_taken (s : State) (i : Instr) (cond : Flags → Bool) (hc : cond s.r.p = false) :
    ∃ t, runInstr i (.branch cond) s = .next t ∧
      Leaves s t s.r (s.after 2) s.mem s.run s.svc s.host 2 ∧
      Emits s t (s.rdOpcode i :: [rd (s.after 1) i.op1]) := by
  refine ⟨_, rfl, ?_⟩
  simp only [cycleBound]
  rw [runCycles_cycle _ _ _ _ (by simp [nextCycle, cycleRow, State.branchRow, State.after, State.rdOpcode,
      State.rdMem, State.rdDummy, State.dummyAddr, State.view_eq, State.during, State.fetched, rd, wr, records,
      HostView.latches, State.memRead, operandStream_eq, zpAddr, stackAddr, hc, State.traceBranch])]
  rw [runCycles_boundary _ _ _ _ (by simp [nextCycle, cycleRow, State.branchRow, State.after, State.rdOpcode,
      State.rdMem, State.rdDummy, State.dummyAddr, State.view_eq, State.during, State.fetched, rd, wr, records,
      HostView.latches, State.memRead, operandStream_eq, zpAddr, stackAddr, hc, State.traceBranch])]
  constructor
  · constructor <;> simp [nextCycle, cycleRow, State.branchRow, State.after, State.rdOpcode, State.rdMem,
      State.rdDummy, State.dummyAddr, State.view_eq, State.during, State.fetched, rd, wr, records, HostView.latches,
      State.memRead, operandStream_eq, zpAddr, stackAddr, hc, State.traceBranch]
  · simp [Emits, nextCycle, cycleRow, State.branchRow, State.after, State.rdOpcode, State.rdMem, State.rdDummy,
      State.dummyAddr, State.view_eq, State.during, State.fetched, rd, wr, records, HostView.latches, State.memRead,
      operandStream_eq, zpAddr, stackAddr, hc, State.traceBranch]

/-- T_REL, taken inside the page (R139). -/
theorem runInstr_branch_taken (s : State) (i : Instr) (cond : Flags → Bool) (hc : cond s.r.p = true)
    (hp : hiByte (s.pc + 2#16 + i.op1.signExtend 16) = hiByte (s.pc + 2#16)) :
    ∃ t, runInstr i (.branch cond) s = .next t ∧
      Leaves s t s.r (s.after 2 + i.op1.signExtend 16) s.mem s.run s.svc s.host 3 ∧
      Emits s t (s.rdOpcode i :: (rd (s.after 1) i.op1 :: s.traceBranch 2 true (s.after 2) i.op1 (s.fetched i))) := by
  refine ⟨_, rfl, ?_⟩
  simp only [cycleBound]
  iterate 2 rw [runCycles_cycle _ _ _ _ (by simp [nextCycle, cycleRow, State.branchRow, State.takenRow, State.after,
      State.rdOpcode, State.rdMem, State.rdDummy, State.dummyAddr, State.view_eq, State.during, State.fetched, rd, wr,
      records, HostView.latches, State.memRead, operandStream_eq, zpAddr, stackAddr, hc, hp, branchCross,
      branchTarget, sext16, State.traceBranch])]
  rw [runCycles_boundary _ _ _ _ (by simp [nextCycle, cycleRow, State.branchRow, State.takenRow, State.after,
      State.rdOpcode, State.rdMem, State.rdDummy, State.dummyAddr, State.view_eq, State.during, State.fetched, rd, wr,
      records, HostView.latches, State.memRead, operandStream_eq, zpAddr, stackAddr, hc, hp, branchCross,
      branchTarget, sext16, State.traceBranch])]
  constructor
  · constructor <;> simp [nextCycle, cycleRow, State.branchRow, State.takenRow, State.after, State.rdOpcode,
      State.rdMem, State.rdDummy, State.dummyAddr, State.view_eq, State.during, State.fetched, rd, wr, records,
      HostView.latches, State.memRead, operandStream_eq, zpAddr, stackAddr, hc, hp, branchCross, branchTarget, sext16,
      State.traceBranch]
  · simp [Emits, nextCycle, cycleRow, State.branchRow, State.takenRow, State.after, State.rdOpcode, State.rdMem,
      State.rdDummy, State.dummyAddr, State.view_eq, State.during, State.fetched, rd, wr, records, HostView.latches,
      State.memRead, operandStream_eq, zpAddr, stackAddr, hc, hp, branchCross, branchTarget, sext16,
      State.traceBranch]

/-- T_REL, taken across a page (R139). -/
theorem runInstr_branch_crossed (s : State) (i : Instr) (cond : Flags → Bool) (hc : cond s.r.p = true)
    (hp : hiByte (s.pc + 2#16 + i.op1.signExtend 16) ≠ hiByte (s.pc + 2#16)) :
    ∃ t, runInstr i (.branch cond) s = .next t ∧
      Leaves s t s.r (s.after 2 + i.op1.signExtend 16) s.mem s.run s.svc s.host 4 ∧
      Emits s t (s.rdOpcode i :: (rd (s.after 1) i.op1 :: s.traceBranch 2 true (s.after 2) i.op1 (s.fetched i))) := by
  refine ⟨_, rfl, ?_⟩
  simp only [cycleBound]
  iterate 3 rw [runCycles_cycle _ _ _ _ (by simp [nextCycle, cycleRow, State.branchRow, State.takenRow,
      State.takenCrossRow, State.after, State.rdOpcode, State.rdMem, State.rdDummy, State.dummyAddr, State.view_eq,
      State.during, State.fetched, rd, wr, records, HostView.latches, State.memRead, operandStream_eq, zpAddr,
      stackAddr, hc, hp, branchCross, branchTarget, sext16, State.traceBranch])]
  rw [runCycles_boundary _ _ _ _ (by simp [nextCycle, cycleRow, State.branchRow, State.takenRow, State.takenCrossRow,
      State.after, State.rdOpcode, State.rdMem, State.rdDummy, State.dummyAddr, State.view_eq, State.during,
      State.fetched, rd, wr, records, HostView.latches, State.memRead, operandStream_eq, zpAddr, stackAddr, hc, hp,
      branchCross, branchTarget, sext16, State.traceBranch])]
  constructor
  · constructor <;> simp [nextCycle, cycleRow, State.branchRow, State.takenRow, State.takenCrossRow, State.after,
      State.rdOpcode, State.rdMem, State.rdDummy, State.dummyAddr, State.view_eq, State.during, State.fetched, rd, wr,
      records, HostView.latches, State.memRead, operandStream_eq, zpAddr, stackAddr, hc, hp, branchCross,
      branchTarget, sext16, State.traceBranch]
  · simp [Emits, nextCycle, cycleRow, State.branchRow, State.takenRow, State.takenCrossRow, State.after,
      State.rdOpcode, State.rdMem, State.rdDummy, State.dummyAddr, State.view_eq, State.during, State.fetched, rd, wr,
      records, HostView.latches, State.memRead, operandStream_eq, zpAddr, stackAddr, hc, hp, branchCross,
      branchTarget, sext16, State.traceBranch]

/-- T_ZPREL, not taken (R140). -/
theorem runInstr_bitBranch_not_taken (s : State) (i : Instr) (n : Nat) (sense : Bool)
    (hc : (readByte s.cfg.memcfg s.mem (wordOf 0x00#8 i.op1)).getLsbD n ≠ sense) :
    ∃ t, runInstr i (.bitBranch n sense) s = .next t ∧
      Leaves s t s.r (s.after 3) s.mem s.run s.svc s.host 5 ∧
      Emits s t (s.rdOpcode i :: [rd (s.after 1) i.op1, s.rdMem (wordOf 0x00#8 i.op1),
        s.rdDummy (s.during 3 (s.after 2) (s.tested i)) .da22 (wordOf 0x00#8 i.op1), rd (s.after 2) i.op2]) := by
  refine ⟨_, rfl, ?_⟩
  simp only [cycleBound]
  iterate 4 rw [runCycles_cycle _ _ _ _ (by simp [nextCycle, cycleRow, State.bitBranchRow, State.rowZpa, State.after,
      State.rdOpcode, State.rdMem, State.rdDummy, State.dummyAddr, State.view_eq, State.during, State.fetched, rd, wr,
      records, HostView.latches, State.memRead, operandStream_eq, zpAddr, stackAddr, hc, bitOf, State.traceBranch,
      State.tested])]
  rw [runCycles_boundary _ _ _ _ (by simp [nextCycle, cycleRow, State.bitBranchRow, State.rowZpa, State.after,
      State.rdOpcode, State.rdMem, State.rdDummy, State.dummyAddr, State.view_eq, State.during, State.fetched, rd, wr,
      records, HostView.latches, State.memRead, operandStream_eq, zpAddr, stackAddr, hc, bitOf, State.traceBranch,
      State.tested])]
  constructor
  · constructor <;> simp [nextCycle, cycleRow, State.bitBranchRow, State.rowZpa, State.after, State.rdOpcode,
      State.rdMem, State.rdDummy, State.dummyAddr, State.view_eq, State.during, State.fetched, rd, wr, records,
      HostView.latches, State.memRead, operandStream_eq, zpAddr, stackAddr, hc, bitOf, State.traceBranch,
      State.tested]
  · simp [Emits, nextCycle, cycleRow, State.bitBranchRow, State.rowZpa, State.after, State.rdOpcode, State.rdMem,
      State.rdDummy, State.dummyAddr, State.view_eq, State.during, State.fetched, rd, wr, records, HostView.latches,
      State.memRead, operandStream_eq, zpAddr, stackAddr, hc, bitOf, State.traceBranch, State.tested]

/-- T_ZPREL, taken inside the page (R140). -/
theorem runInstr_bitBranch_taken (s : State) (i : Instr) (n : Nat) (sense : Bool)
    (hc : (readByte s.cfg.memcfg s.mem (wordOf 0x00#8 i.op1)).getLsbD n = sense)
    (hp : hiByte (s.pc + 3#16 + i.op2.signExtend 16) = hiByte (s.pc + 3#16)) :
    ∃ t, runInstr i (.bitBranch n sense) s = .next t ∧
      Leaves s t s.r (s.after 3 + i.op2.signExtend 16) s.mem s.run s.svc s.host 6 ∧
      Emits s t (s.rdOpcode i :: ([rd (s.after 1) i.op1, s.rdMem (wordOf 0x00#8 i.op1),
        s.rdDummy (s.during 3 (s.after 2) (s.tested i)) .da22 (wordOf 0x00#8 i.op1), rd (s.after 2) i.op2] ++ s.traceBranch 5 true (s.after 3) i.op2 (s.tested i))) := by
  refine ⟨_, rfl, ?_⟩
  simp only [cycleBound]
  iterate 5 rw [runCycles_cycle _ _ _ _ (by simp [nextCycle, cycleRow, State.bitBranchRow, State.rowZpa,
      State.takenRow, State.after, State.rdOpcode, State.rdMem, State.rdDummy, State.dummyAddr, State.view_eq,
      State.during, State.fetched, rd, wr, records, HostView.latches, State.memRead, operandStream_eq, zpAddr,
      stackAddr, hc, hp, bitOf, branchCross, branchTarget, sext16, State.traceBranch, State.tested])]
  rw [runCycles_boundary _ _ _ _ (by simp [nextCycle, cycleRow, State.bitBranchRow, State.rowZpa, State.takenRow,
      State.after, State.rdOpcode, State.rdMem, State.rdDummy, State.dummyAddr, State.view_eq, State.during,
      State.fetched, rd, wr, records, HostView.latches, State.memRead, operandStream_eq, zpAddr, stackAddr, hc, hp,
      bitOf, branchCross, branchTarget, sext16, State.traceBranch, State.tested])]
  constructor
  · constructor <;> simp [nextCycle, cycleRow, State.bitBranchRow, State.rowZpa, State.takenRow, State.after,
      State.rdOpcode, State.rdMem, State.rdDummy, State.dummyAddr, State.view_eq, State.during, State.fetched, rd, wr,
      records, HostView.latches, State.memRead, operandStream_eq, zpAddr, stackAddr, hc, hp, bitOf, branchCross,
      branchTarget, sext16, State.traceBranch, State.tested]
  · simp [Emits, nextCycle, cycleRow, State.bitBranchRow, State.rowZpa, State.takenRow, State.after, State.rdOpcode,
      State.rdMem, State.rdDummy, State.dummyAddr, State.view_eq, State.during, State.fetched, rd, wr, records,
      HostView.latches, State.memRead, operandStream_eq, zpAddr, stackAddr, hc, hp, bitOf, branchCross, branchTarget,
      sext16, State.traceBranch, State.tested]

/-- T_ZPREL, taken across a page (R140). -/
theorem runInstr_bitBranch_crossed (s : State) (i : Instr) (n : Nat) (sense : Bool)
    (hc : (readByte s.cfg.memcfg s.mem (wordOf 0x00#8 i.op1)).getLsbD n = sense)
    (hp : hiByte (s.pc + 3#16 + i.op2.signExtend 16) ≠ hiByte (s.pc + 3#16)) :
    ∃ t, runInstr i (.bitBranch n sense) s = .next t ∧
      Leaves s t s.r (s.after 3 + i.op2.signExtend 16) s.mem s.run s.svc s.host 7 ∧
      Emits s t (s.rdOpcode i :: ([rd (s.after 1) i.op1, s.rdMem (wordOf 0x00#8 i.op1),
        s.rdDummy (s.during 3 (s.after 2) (s.tested i)) .da22 (wordOf 0x00#8 i.op1), rd (s.after 2) i.op2] ++ s.traceBranch 5 true (s.after 3) i.op2 (s.tested i))) := by
  refine ⟨_, rfl, ?_⟩
  simp only [cycleBound]
  iterate 6 rw [runCycles_cycle _ _ _ _ (by simp [nextCycle, cycleRow, State.bitBranchRow, State.rowZpa,
      State.takenRow, State.takenCrossRow, State.after, State.rdOpcode, State.rdMem, State.rdDummy, State.dummyAddr,
      State.view_eq, State.during, State.fetched, rd, wr, records, HostView.latches, State.memRead, operandStream_eq,
      zpAddr, stackAddr, hc, hp, bitOf, branchCross, branchTarget, sext16, State.traceBranch, State.tested])]
  rw [runCycles_boundary _ _ _ _ (by simp [nextCycle, cycleRow, State.bitBranchRow, State.rowZpa, State.takenRow,
      State.takenCrossRow, State.after, State.rdOpcode, State.rdMem, State.rdDummy, State.dummyAddr, State.view_eq,
      State.during, State.fetched, rd, wr, records, HostView.latches, State.memRead, operandStream_eq, zpAddr,
      stackAddr, hc, hp, bitOf, branchCross, branchTarget, sext16, State.traceBranch, State.tested])]
  constructor
  · constructor <;> simp [nextCycle, cycleRow, State.bitBranchRow, State.rowZpa, State.takenRow, State.takenCrossRow,
      State.after, State.rdOpcode, State.rdMem, State.rdDummy, State.dummyAddr, State.view_eq, State.during,
      State.fetched, rd, wr, records, HostView.latches, State.memRead, operandStream_eq, zpAddr, stackAddr, hc, hp,
      bitOf, branchCross, branchTarget, sext16, State.traceBranch, State.tested]
  · simp [Emits, nextCycle, cycleRow, State.bitBranchRow, State.rowZpa, State.takenRow, State.takenCrossRow,
      State.after, State.rdOpcode, State.rdMem, State.rdDummy, State.dummyAddr, State.view_eq, State.during,
      State.fetched, rd, wr, records, HostView.latches, State.memRead, operandStream_eq, zpAddr, stackAddr, hc, hp,
      bitOf, branchCross, branchTarget, sext16, State.traceBranch, State.tested]

/-- T_JMP_ABS (R141). -/
theorem runInstr_jmpAbs (s : State) (i : Instr) :
    ∃ t, runInstr i (.jmpAbs) s = .next t ∧
      Leaves s t s.r (wordOf i.op2 i.op1) s.mem s.run s.svc s.host 3 ∧
      Emits s t (s.rdOpcode i :: [rd (s.after 1) i.op1, rd (s.after 2) i.op2]) := by
  refine ⟨_, rfl, ?_⟩
  simp only [cycleBound]
  iterate 2 rw [runCycles_cycle _ _ _ _ (by simp [nextCycle, cycleRow, State.jmpAbsRow, State.rowAdl, State.after,
      State.rdOpcode, State.rdMem, State.rdDummy, State.dummyAddr, State.view_eq, State.during, State.fetched, rd, wr,
      records, HostView.latches, State.memRead, operandStream_eq, zpAddr, stackAddr])]
  rw [runCycles_boundary _ _ _ _ (by simp [nextCycle, cycleRow, State.jmpAbsRow, State.rowAdl, State.after,
      State.rdOpcode, State.rdMem, State.rdDummy, State.dummyAddr, State.view_eq, State.during, State.fetched, rd, wr,
      records, HostView.latches, State.memRead, operandStream_eq, zpAddr, stackAddr])]
  constructor
  · constructor <;> simp [nextCycle, cycleRow, State.jmpAbsRow, State.rowAdl, State.after, State.rdOpcode,
      State.rdMem, State.rdDummy, State.dummyAddr, State.view_eq, State.during, State.fetched, rd, wr, records,
      HostView.latches, State.memRead, operandStream_eq, zpAddr, stackAddr]
  · simp [Emits, nextCycle, cycleRow, State.jmpAbsRow, State.rowAdl, State.after, State.rdOpcode, State.rdMem,
      State.rdDummy, State.dummyAddr, State.view_eq, State.during, State.fetched, rd, wr, records, HostView.latches,
      State.memRead, operandStream_eq, zpAddr, stackAddr]

/-- T_JMP_IND (R142). -/
theorem runInstr_jmpInd (s : State) (i : Instr) :
    ∃ t, runInstr i (.jmpInd) s = .next t ∧
      Leaves s t s.r (wordOf (s.memRead (wordOf i.op2 i.op1 + 1#16)) (s.memRead (wordOf i.op2 i.op1))) s.mem s.run
          s.svc s.host 6 ∧
      Emits s t (s.rdOpcode i :: [rd (s.after 1) i.op1, rd (s.after 2) i.op2, s.rdDummy (s.during 3 (s.after 3)
          { s.fetched i with adl := i.op1, adh := i.op2, ea := wordOf i.op2 i.op1 }) .da12 (s.after 2),
        s.rdMem (wordOf i.op2 i.op1), s.rdMem (wordOf i.op2 i.op1 + 1#16)]) := by
  refine ⟨_, rfl, ?_⟩
  simp only [cycleBound]
  iterate 5 rw [runCycles_cycle _ _ _ _ (by simp [nextCycle, cycleRow, State.jmpIndRow, State.rowAdl, State.rowAdhEa,
      State.jumpPointerRow, State.after, State.rdOpcode, State.rdMem, State.rdDummy, State.dummyAddr, State.view_eq,
      State.during, State.fetched, rd, wr, records, HostView.latches, State.memRead, operandStream_eq, zpAddr,
      stackAddr])]
  rw [runCycles_boundary _ _ _ _ (by simp [nextCycle, cycleRow, State.jmpIndRow, State.rowAdl, State.rowAdhEa,
      State.jumpPointerRow, State.after, State.rdOpcode, State.rdMem, State.rdDummy, State.dummyAddr, State.view_eq,
      State.during, State.fetched, rd, wr, records, HostView.latches, State.memRead, operandStream_eq, zpAddr,
      stackAddr])]
  constructor
  · constructor <;> simp [nextCycle, cycleRow, State.jmpIndRow, State.rowAdl, State.rowAdhEa, State.jumpPointerRow,
      State.after, State.rdOpcode, State.rdMem, State.rdDummy, State.dummyAddr, State.view_eq, State.during,
      State.fetched, rd, wr, records, HostView.latches, State.memRead, operandStream_eq, zpAddr, stackAddr]
  · simp [Emits, nextCycle, cycleRow, State.jmpIndRow, State.rowAdl, State.rowAdhEa, State.jumpPointerRow,
      State.after, State.rdOpcode, State.rdMem, State.rdDummy, State.dummyAddr, State.view_eq, State.during,
      State.fetched, rd, wr, records, HostView.latches, State.memRead, operandStream_eq, zpAddr, stackAddr]

/-- T_JMP_IAX (R143). -/
theorem runInstr_jmpIax (s : State) (i : Instr) :
    ∃ t, runInstr i (.jmpIax) s = .next t ∧
      Leaves s t s.r (wordOf (s.memRead (wordOf i.op2 i.op1 + s.r.x.setWidth 16 + 1#16)) (s.memRead (wordOf i.op2
          i.op1 + s.r.x.setWidth 16))) s.mem s.run s.svc s.host 6 ∧
      Emits s t (s.rdOpcode i :: [rd (s.after 1) i.op1, rd (s.after 2) i.op2, s.rdDummy (s.during 3 (s.after 3)
          { s.fetched i with adl := i.op1, adh := i.op2 }) .da13 (s.after 2),
        s.rdMem (wordOf i.op2 i.op1 + s.r.x.setWidth 16), s.rdMem (wordOf i.op2 i.op1 + s.r.x.setWidth 16 + 1#16)]) :=
            by
  refine ⟨_, rfl, ?_⟩
  simp only [cycleBound]
  iterate 5 rw [runCycles_cycle _ _ _ _ (by simp [nextCycle, cycleRow, State.jmpIaxRow, State.rowAdl,
      State.jumpPointerRow, State.after, State.rdOpcode, State.rdMem, State.rdDummy, State.dummyAddr, State.view_eq,
      State.during, State.fetched, rd, wr, records, HostView.latches, State.memRead, operandStream_eq, zpAddr,
      stackAddr, absIndexed, zext16])]
  rw [runCycles_boundary _ _ _ _ (by simp [nextCycle, cycleRow, State.jmpIaxRow, State.rowAdl, State.jumpPointerRow,
      State.after, State.rdOpcode, State.rdMem, State.rdDummy, State.dummyAddr, State.view_eq, State.during,
      State.fetched, rd, wr, records, HostView.latches, State.memRead, operandStream_eq, zpAddr, stackAddr,
      absIndexed, zext16])]
  constructor
  · constructor <;> simp [nextCycle, cycleRow, State.jmpIaxRow, State.rowAdl, State.jumpPointerRow, State.after,
      State.rdOpcode, State.rdMem, State.rdDummy, State.dummyAddr, State.view_eq, State.during, State.fetched, rd, wr,
      records, HostView.latches, State.memRead, operandStream_eq, zpAddr, stackAddr, absIndexed, zext16]
  · simp [Emits, nextCycle, cycleRow, State.jmpIaxRow, State.rowAdl, State.jumpPointerRow, State.after,
      State.rdOpcode, State.rdMem, State.rdDummy, State.dummyAddr, State.view_eq, State.during, State.fetched, rd, wr,
      records, HostView.latches, State.memRead, operandStream_eq, zpAddr, stackAddr, absIndexed, zext16]

/-- T_JSR (R144): the third byte is read from the memory the pushes leave. -/
theorem runInstr_jsr (s : State) (i : Instr) :
    ∃ t, runInstr i (.jsr) s = .next t ∧
      Leaves s t { s.r with sp := s.r.sp - 2#8 } (wordOf (readByte s.cfg.memcfg (pushBytes s.cfg.memcfg s.mem s.r.sp
          [hiByte (s.after 2), loByte (s.after 2)]) (s.after 2)) i.op1) (pushBytes s.cfg.memcfg s.mem s.r.sp [hiByte
          (s.after 2), loByte (s.after 2)]) s.run s.svc s.host 6 ∧
      Emits s t (s.rdOpcode i :: [rd (s.after 1) i.op1,
        s.rdDummy (s.during 2 (s.after 2) { s.fetched i with adl := i.op1 }) .da14 (wordOf 0x01#8 s.r.sp),
        wr (wordOf 0x01#8 s.r.sp) (hiByte (s.after 2)), wr (wordOf 0x01#8 (s.r.sp - 1#8)) (loByte (s.after 2)),
        rd (s.after 2) (readByte s.cfg.memcfg (pushBytes s.cfg.memcfg s.mem s.r.sp [hiByte (s.after 2), loByte
            (s.after 2)]) (s.after 2))]) := by
  refine ⟨_, rfl, ?_⟩
  simp only [cycleBound]
  iterate 5 rw [runCycles_cycle _ _ _ _ (by simp [nextCycle, cycleRow, State.jsrRow, State.rowAdl, State.after,
      State.rdOpcode, State.rdMem, State.rdDummy, State.dummyAddr, State.view_eq, State.during, State.fetched, rd, wr,
      records, HostView.latches, State.memRead, operandStream_eq, zpAddr, stackAddr, pushBytes])]
  rw [runCycles_boundary _ _ _ _ (by simp [nextCycle, cycleRow, State.jsrRow, State.rowAdl, State.after,
      State.rdOpcode, State.rdMem, State.rdDummy, State.dummyAddr, State.view_eq, State.during, State.fetched, rd, wr,
      records, HostView.latches, State.memRead, operandStream_eq, zpAddr, stackAddr, pushBytes])]
  constructor
  · constructor <;> simp [nextCycle, cycleRow, State.jsrRow, State.rowAdl, State.after, State.rdOpcode, State.rdMem,
      State.rdDummy, State.dummyAddr, State.view_eq, State.during, State.fetched, rd, wr, records, HostView.latches,
      State.memRead, operandStream_eq, zpAddr, stackAddr, pushBytes]
  · simp [Emits, nextCycle, cycleRow, State.jsrRow, State.rowAdl, State.after, State.rdOpcode, State.rdMem,
      State.rdDummy, State.dummyAddr, State.view_eq, State.during, State.fetched, rd, wr, records, HostView.latches,
      State.memRead, operandStream_eq, zpAddr, stackAddr, pushBytes]

/-- T_RTS (R145). -/
theorem runInstr_rts (s : State) (i : Instr) :
    ∃ t, runInstr i (.rts) s = .next t ∧
      Leaves s t { s.r with sp := s.r.sp + 2#8 } (wordOf (s.memRead (wordOf 0x01#8 (s.r.sp + 2#8))) (s.memRead (wordOf
          0x01#8 (s.r.sp + 1#8))) + 1#16) s.mem s.run s.svc s.host 6 ∧
      Emits s t (s.rdOpcode i :: (s.tracePull i ++ [s.rdMem (wordOf 0x01#8 (s.r.sp + 1#8)),
        s.rdMem (wordOf 0x01#8 (s.r.sp + 2#8)),
        s.rdDummy { s.during 5
            (wordOf (s.memRead (wordOf 0x01#8 (s.r.sp + 2#8))) (s.memRead (wordOf 0x01#8 (s.r.sp + 1#8))))
          { s.fetched i with
            adl := s.memRead (wordOf 0x01#8 (s.r.sp + 1#8)), adh := s.memRead (wordOf 0x01#8 (s.r.sp + 2#8)) } with
          r := { s.r with sp := s.r.sp + 2#8 } } .da17
          (wordOf (s.memRead (wordOf 0x01#8 (s.r.sp + 2#8))) (s.memRead (wordOf 0x01#8 (s.r.sp + 1#8))))])) := by
  refine ⟨_, rfl, ?_⟩
  simp only [cycleBound]
  iterate 5 rw [runCycles_cycle _ _ _ _ (by simp [nextCycle, cycleRow, State.rtsRow, State.after, State.rdOpcode,
      State.rdMem, State.rdDummy, State.dummyAddr, State.view_eq, State.during, State.fetched, rd, wr, records,
      HostView.latches, State.memRead, operandStream_eq, zpAddr, stackAddr, State.tracePull])]
  rw [runCycles_boundary _ _ _ _ (by simp [nextCycle, cycleRow, State.rtsRow, State.after, State.rdOpcode,
      State.rdMem, State.rdDummy, State.dummyAddr, State.view_eq, State.during, State.fetched, rd, wr, records,
      HostView.latches, State.memRead, operandStream_eq, zpAddr, stackAddr, State.tracePull])]
  constructor
  · constructor <;> simp [nextCycle, cycleRow, State.rtsRow, State.after, State.rdOpcode, State.rdMem, State.rdDummy,
      State.dummyAddr, State.view_eq, State.during, State.fetched, rd, wr, records, HostView.latches, State.memRead,
      operandStream_eq, zpAddr, stackAddr, State.tracePull]
  · simp [Emits, nextCycle, cycleRow, State.rtsRow, State.after, State.rdOpcode, State.rdMem, State.rdDummy,
      State.dummyAddr, State.view_eq, State.during, State.fetched, rd, wr, records, HostView.latches, State.memRead,
      operandStream_eq, zpAddr, stackAddr, State.tracePull]

/-- T_RTI (R146). -/
theorem runInstr_rti (s : State) (i : Instr) :
    ∃ t, runInstr i (.rti) s = .next t ∧
      Leaves s t { s.r with sp := s.r.sp + 3#8, p := unpackP (s.memRead (wordOf 0x01#8 (s.r.sp + 1#8))) } (wordOf
          (s.memRead (wordOf 0x01#8 (s.r.sp + 3#8))) (s.memRead (wordOf 0x01#8 (s.r.sp + 2#8)))) s.mem s.run .running
          s.host 6 ∧
      Emits s t (s.rdOpcode i :: (s.tracePull i ++ [s.rdMem (wordOf 0x01#8 (s.r.sp + 1#8)),
        s.rdMem (wordOf 0x01#8 (s.r.sp + 2#8)),
        s.rdMem (wordOf 0x01#8 (s.r.sp + 3#8))])) := by
  refine ⟨_, rfl, ?_⟩
  simp only [cycleBound]
  iterate 5 rw [runCycles_cycle _ _ _ _ (by simp [nextCycle, cycleRow, State.trapReturnRow, State.after,
      State.rdOpcode, State.rdMem, State.rdDummy, State.dummyAddr, State.view_eq, State.during, State.fetched, rd, wr,
      records, HostView.latches, State.memRead, operandStream_eq, zpAddr, stackAddr, State.tracePull])]
  rw [runCycles_boundary _ _ _ _ (by simp [nextCycle, cycleRow, State.trapReturnRow, State.after, State.rdOpcode,
      State.rdMem, State.rdDummy, State.dummyAddr, State.view_eq, State.during, State.fetched, rd, wr, records,
      HostView.latches, State.memRead, operandStream_eq, zpAddr, stackAddr, State.tracePull])]
  constructor
  · constructor <;> simp [nextCycle, cycleRow, State.trapReturnRow, State.after, State.rdOpcode, State.rdMem,
      State.rdDummy, State.dummyAddr, State.view_eq, State.during, State.fetched, rd, wr, records, HostView.latches,
      State.memRead, operandStream_eq, zpAddr, stackAddr, State.tracePull]
  · simp [Emits, nextCycle, cycleRow, State.trapReturnRow, State.after, State.rdOpcode, State.rdMem, State.rdDummy,
      State.dummyAddr, State.view_eq, State.during, State.fetched, rd, wr, records, HostView.latches, State.memRead,
      operandStream_eq, zpAddr, stackAddr, State.tracePull]

/-- T_BRK (R147). -/
theorem runInstr_brk (s : State) (i : Instr) :
    ∃ t, runInstr i (.brk) s = .next t ∧
      Leaves s t { s.r with sp := s.r.sp - 3#8, p := trapFlags s.r.p } (wordOf (readByte s.cfg.memcfg (pushBytes
          s.cfg.memcfg s.mem s.r.sp [hiByte (s.after 2), loByte (s.after 2), packP s.r.p true]) 0xFFFF#16) (readByte
          s.cfg.memcfg (pushBytes s.cfg.memcfg s.mem s.r.sp [hiByte (s.after 2), loByte (s.after 2), packP s.r.p
          true]) 0xFFFE#16)) (pushBytes s.cfg.memcfg s.mem s.r.sp [hiByte (s.after 2), loByte (s.after 2), packP s.r.p
          true]) s.run s.svc s.host 7 ∧
      Emits s t (s.rdOpcode i :: s.rdMem (s.after 1) :: s.traceTrap (s.after 2) true 0xFFFE#16) := by
  refine ⟨_, rfl, ?_⟩
  simp only [cycleBound]
  iterate 6 rw [runCycles_cycle _ _ _ _ (by simp [nextCycle, cycleRow, State.brkRow, State.trapEntryRow,
      State.traceTrap, State.after, State.rdOpcode, State.rdMem, State.rdDummy, State.dummyAddr, State.view_eq,
      State.during, State.fetched, rd, wr, records, HostView.latches, State.memRead, operandStream_eq, zpAddr,
      stackAddr, brkVector, pushBytes])]
  rw [runCycles_boundary _ _ _ _ (by simp [nextCycle, cycleRow, State.brkRow, State.trapEntryRow, State.traceTrap,
      State.after, State.rdOpcode, State.rdMem, State.rdDummy, State.dummyAddr, State.view_eq, State.during,
      State.fetched, rd, wr, records, HostView.latches, State.memRead, operandStream_eq, zpAddr, stackAddr, brkVector,
      pushBytes])]
  constructor
  · constructor <;> simp [nextCycle, cycleRow, State.brkRow, State.trapEntryRow, State.traceTrap, State.after,
      State.rdOpcode, State.rdMem, State.rdDummy, State.dummyAddr, State.view_eq, State.during, State.fetched, rd, wr,
      records, HostView.latches, State.memRead, operandStream_eq, zpAddr, stackAddr, brkVector, pushBytes]
  · simp [Emits, nextCycle, cycleRow, State.brkRow, State.trapEntryRow, State.traceTrap, State.after, State.rdOpcode,
      State.rdMem, State.rdDummy, State.dummyAddr, State.view_eq, State.during, State.fetched, rd, wr, records,
      HostView.latches, State.memRead, operandStream_eq, zpAddr, stackAddr, brkVector, pushBytes]

/-- T_PUSH (R148). -/
theorem runInstr_push (s : State) (i : Instr) (v : Regs → Byte) :
    ∃ t, runInstr i (.push v) s = .next t ∧
      Leaves s t { s.r with sp := s.r.sp - 1#8 } (s.after 1) (storeByte s.cfg.memcfg s.mem (wordOf 0x01#8 s.r.sp) (v
          s.r)) s.run s.svc s.host 3 ∧
      Emits s t (s.rdOpcode i :: [s.rdDummy (s.during 1 (s.after 1) (s.fetched i)) .da16 (s.after 1),
        wr (wordOf 0x01#8 s.r.sp) (v s.r)]) := by
  refine ⟨_, rfl, ?_⟩
  simp only [cycleBound]
  iterate 2 rw [runCycles_cycle _ _ _ _ (by simp [nextCycle, cycleRow, State.pushRow, State.after, State.rdOpcode,
      State.rdMem, State.rdDummy, State.dummyAddr, State.view_eq, State.during, State.fetched, rd, wr, records,
      HostView.latches, State.memRead, operandStream_eq, zpAddr, stackAddr])]
  rw [runCycles_boundary _ _ _ _ (by simp [nextCycle, cycleRow, State.pushRow, State.after, State.rdOpcode,
      State.rdMem, State.rdDummy, State.dummyAddr, State.view_eq, State.during, State.fetched, rd, wr, records,
      HostView.latches, State.memRead, operandStream_eq, zpAddr, stackAddr])]
  constructor
  · constructor <;> simp [nextCycle, cycleRow, State.pushRow, State.after, State.rdOpcode, State.rdMem, State.rdDummy,
      State.dummyAddr, State.view_eq, State.during, State.fetched, rd, wr, records, HostView.latches, State.memRead,
      operandStream_eq, zpAddr, stackAddr]
  · simp [Emits, nextCycle, cycleRow, State.pushRow, State.after, State.rdOpcode, State.rdMem, State.rdDummy,
      State.dummyAddr, State.view_eq, State.during, State.fetched, rd, wr, records, HostView.latches, State.memRead,
      operandStream_eq, zpAddr, stackAddr]

/-- T_PULL (R149). -/
theorem runInstr_pull (s : State) (i : Instr) (op : Byte → Regs → Regs) :
    ∃ t, runInstr i (.pull op) s = .next t ∧
      Leaves s t (op (s.memRead (wordOf 0x01#8 (s.r.sp + 1#8))) { s.r with sp := s.r.sp + 1#8 }) (s.after 1) s.mem
          s.run s.svc s.host 4 ∧
      Emits s t (s.rdOpcode i :: (s.tracePull i ++ [s.rdMem (wordOf 0x01#8 (s.r.sp + 1#8))])) := by
  refine ⟨_, rfl, ?_⟩
  simp only [cycleBound]
  iterate 3 rw [runCycles_cycle _ _ _ _ (by simp [nextCycle, cycleRow, State.pullRow, State.after, State.rdOpcode,
      State.rdMem, State.rdDummy, State.dummyAddr, State.view_eq, State.during, State.fetched, rd, wr, records,
      HostView.latches, State.memRead, operandStream_eq, zpAddr, stackAddr, State.tracePull])]
  rw [runCycles_boundary _ _ _ _ (by simp [nextCycle, cycleRow, State.pullRow, State.after, State.rdOpcode,
      State.rdMem, State.rdDummy, State.dummyAddr, State.view_eq, State.during, State.fetched, rd, wr, records,
      HostView.latches, State.memRead, operandStream_eq, zpAddr, stackAddr, State.tracePull])]
  constructor
  · constructor <;> simp [nextCycle, cycleRow, State.pullRow, State.after, State.rdOpcode, State.rdMem, State.rdDummy,
      State.dummyAddr, State.view_eq, State.during, State.fetched, rd, wr, records, HostView.latches, State.memRead,
      operandStream_eq, zpAddr, stackAddr, State.tracePull]
  · simp [Emits, nextCycle, cycleRow, State.pullRow, State.after, State.rdOpcode, State.rdMem, State.rdDummy,
      State.dummyAddr, State.view_eq, State.during, State.fetched, rd, wr, records, HostView.latches, State.memRead,
      operandStream_eq, zpAddr, stackAddr, State.tracePull]

/-- T_HALT (R150). -/
theorem runInstr_halt (s : State) (i : Instr) (mode : RunMode) :
    ∃ t, runInstr i (.halt mode) s = .next t ∧
      Leaves s t s.r (s.after 1) s.mem mode s.svc s.host 3 ∧
      Emits s t (s.rdOpcode i :: [s.rdDummy (s.during 1 (s.after 1) (s.fetched i)) .da20 (s.after 1),
        s.rdDummy (s.during 2 (s.after 1) (s.fetched i)) .da20 (s.after 1)]) := by
  refine ⟨_, rfl, ?_⟩
  simp only [cycleBound]
  iterate 2 rw [runCycles_cycle _ _ _ _ (by simp [nextCycle, cycleRow, State.haltRow, State.after, State.rdOpcode,
      State.rdMem, State.rdDummy, State.dummyAddr, State.view_eq, State.during, State.fetched, rd, wr, records,
      HostView.latches, State.memRead, operandStream_eq, zpAddr, stackAddr])]
  rw [runCycles_boundary _ _ _ _ (by simp [nextCycle, cycleRow, State.haltRow, State.after, State.rdOpcode,
      State.rdMem, State.rdDummy, State.dummyAddr, State.view_eq, State.during, State.fetched, rd, wr, records,
      HostView.latches, State.memRead, operandStream_eq, zpAddr, stackAddr])]
  constructor
  · constructor <;> simp [nextCycle, cycleRow, State.haltRow, State.after, State.rdOpcode, State.rdMem, State.rdDummy,
      State.dummyAddr, State.view_eq, State.during, State.fetched, rd, wr, records, HostView.latches, State.memRead,
      operandStream_eq, zpAddr, stackAddr]
  · simp [Emits, nextCycle, cycleRow, State.haltRow, State.after, State.rdOpcode, State.rdMem, State.rdDummy,
      State.dummyAddr, State.view_eq, State.during, State.fetched, rd, wr, records, HostView.latches, State.memRead,
      operandStream_eq, zpAddr, stackAddr]

/-- T_INT (60_exceptions.md R349): NMI clears `nmi_pending` before the inputs of the later ticks are latched. -/
theorem runInterrupt_spec (s : State) (k : IntKind) :
    Leaves s (runInterrupt k s) { s.r with sp := s.r.sp - 3#8, p := trapFlags s.r.p }
        (wordOf (readByte s.cfg.memcfg (pushBytes s.cfg.memcfg s.mem s.r.sp [hiByte s.pc, loByte s.pc, packP s.r.p
            false]) (intVector k + 1#16)) (readByte s.cfg.memcfg (pushBytes s.cfg.memcfg s.mem s.r.sp [hiByte s.pc,
            loByte s.pc, packP s.r.p false]) (intVector k))) (pushBytes s.cfg.memcfg s.mem s.r.sp [hiByte s.pc, loByte
            s.pc, packP s.r.p false]) s.run
        (intSvc k)
        (match k with
          | .nmi => { s.host with nmiPending := false }
          | .irq => s.host) 7 ∧
      Emits s (runInterrupt k s) (s.traceInterrupt k) := by
  cases k
  all_goals
    simp only [runInterrupt, cycleBound]
    iterate 6 rw [runCycles_cycle _ _ _ _ (by simp [nextCycle, cycleRow, State.interruptRow, State.interruptStart,
        State.trapEntryRow, State.traceTrap, State.after, State.rdOpcode, State.rdMem, State.rdDummy, State.dummyAddr,
        State.view_eq, State.during, State.fetched, rd, wr, records, HostView.latches, State.memRead,
        operandStream_eq, zpAddr, stackAddr, pushBytes, intVector, intSvc, State.traceInterrupt,
        State.duringInterrupt])]
    rw [runCycles_boundary _ _ _ _ (by simp [nextCycle, cycleRow, State.interruptRow, State.interruptStart,
        State.trapEntryRow, State.traceTrap, State.after, State.rdOpcode, State.rdMem, State.rdDummy, State.dummyAddr,
        State.view_eq, State.during, State.fetched, rd, wr, records, HostView.latches, State.memRead,
        operandStream_eq, zpAddr, stackAddr, pushBytes, intVector, intSvc, State.traceInterrupt,
        State.duringInterrupt])]
    constructor
    · constructor <;> simp [nextCycle, cycleRow, State.interruptRow, State.interruptStart, State.trapEntryRow,
        State.traceTrap, State.after, State.rdOpcode, State.rdMem, State.rdDummy, State.dummyAddr, State.view_eq,
        State.during, State.fetched, rd, wr, records, HostView.latches, State.memRead, operandStream_eq, zpAddr,
        stackAddr, pushBytes, intVector, intSvc, State.traceInterrupt, State.duringInterrupt]
      all_goals rfl
    · simp [Emits, nextCycle, cycleRow, State.interruptRow, State.interruptStart, State.trapEntryRow, State.traceTrap,
        State.after, State.rdOpcode, State.rdMem, State.rdDummy, State.dummyAddr, State.view_eq, State.during,
        State.fetched, rd, wr, records, HostView.latches, State.memRead, operandStream_eq, zpAddr, stackAddr,
        pushBytes, intVector, intSvc, State.traceInterrupt, State.duringInterrupt]
      exact ⟨rfl, rfl⟩

end Sys2Proof.Machine
end

