-- ==== Sys2Proof/Laws/Dispatch.lean ====
section
/-! SUPPORT. Every meaning is the run of its micro-op program, so a fact about the cycle templates is a fact about every
instruction; and what follows for the memory. -/

namespace Sys2Proof.Machine

/-- The meaning of every instruction is the run of the program the decode table has for it (30_encoding.md R85). -/
theorem exec_eq_runInstr (i : Instr) (s : State) : exec i s = runInstr i (program i) s := by
  cases i <;> rfl

/-- What the pushes of a trap leave is in canonical form. -/
theorem wf_pushBytes {m : Memory} (h : m.wf = true) (c : MemCfg) (sp : Byte) (vs : List Byte) :
    (pushBytes c m sp vs).wf = true := by
  induction vs generalizing m sp with
  | nil => exact h
  | cons v vs ih => exact ih (wf_storeByte h c _ v) _

/-- A byte that is no stack byte of the pushes reads as before. -/
theorem readByte_pushBytes (c : MemCfg) (m : Memory) (sp : Byte) (vs : List Byte) (a : Word)
    (h : ∀ k < vs.length, mirrorAddr c a ≠ mirrorAddr c (stackAddr (sp - BitVec.ofNat 8 k))) :
    readByte c (pushBytes c m sp vs) a = readByte c m a := by
  induction vs generalizing m sp with
  | nil => rfl
  | cons v vs ih =>
    have h0 := h 0 (by simp)
    simp only [BitVec.sub_zero] at h0
    rw [pushBytes, ih, readByte_storeByte, if_neg (fun hh => h0 hh.2)]
    intro k hk
    have := h (k + 1) (by simpa using hk)
    rwa [show sp - BitVec.ofNat 8 (k + 1) = sp - 1#8 - BitVec.ofNat 8 k by
      rw [BitVec.sub_sub]; congr 1; rw [Nat.add_comm, BitVec.ofNat_add]] at this

/-- An array byte outside RAM is changed by no push. -/
theorem readByte_pushBytes_of_not_ram (c : MemCfg) (m : Memory) (sp : Byte) (vs : List Byte) (a : Word)
    (h : regionKind c a ≠ some .ram) : readByte c (pushBytes c m sp vs) a = readByte c m a := by
  induction vs generalizing m sp with
  | nil => rfl
  | cons v vs ih =>
    rw [pushBytes, ih, readByte_storeByte, if_neg]
    rintro ⟨hr, hm⟩
    exact h (by rw [regionKind, hm]; exact hr)

end Sys2Proof.Machine
end

