-- ==== Sys2Proof/Laws/Boundary.lean ====
section
/-! SUPPORT. What the step does in each mode, as equations: one lemma for each row of 60_exceptions.md R348. -/

namespace Sys2Proof.Machine

theorem step_faulted {s : State} {op : Byte} {a : Word} (h : s.run = .faulted op a) :
    step s = .fault (.decodeError op a) := by simp [step, advance, h]

theorem step_stopped {s : State} (h : s.run = .stopped) : step s = .next s.latchInputs.idleCycle := by
  simp [step, advance, h]

theorem step_waiting_idle {s : State} (h : s.run = .waiting) (hw : woken s.latchInputs = false) :
    step s = .next s.latchInputs.idleCycle := by simp [step, advance, h, hw]

theorem step_waiting_woken {s : State} (h : s.run = .waiting) (hw : woken s.latchInputs = true) :
    step s = boundaryStep (s.latchInputs.withRun .running) := by simp [step, advance, h, hw]

theorem step_boundary {s : State} (h : s.run = .running) (ht : s.t = 1) : step s = boundaryStep s.latchInputs := by
  simp [step, advance, h, ht]

theorem step_resume {s : State} (h : s.run = .running) (ht : s.t ≠ 1) : step s = resume s := by
  simp [step, advance, h, ht]

/-- Recognition in terms of the host's view (60_exceptions.md R346). -/
theorem recognise_eq (s : State) :
    recognise s = if s.host.nmiPending then some .nmi else if s.host.irqLine && !s.r.p.i then some .irq else none := rfl

theorem boundaryStep_interrupt {s : State} {k : IntKind} (h : recognise s = some k) :
    boundaryStep s = .next (runInterrupt k s) := by simp [boundaryStep, h]

theorem boundaryStep_fetch {s : State} (h : recognise s = none) : boundaryStep s = fetchExecute s := by
  simp [boundaryStep, h]

/-- The fetch cycle of an opcode that is the placeholder changes `pc`, `run`, `cyc` and the latch IR
(60_exceptions.md R341). -/
@[simp] theorem State.decodeErrorCycle_r (s : State) (op : Byte) : (s.decodeErrorCycle op).r = s.r := by
  simp [State.decodeErrorCycle]
@[simp] theorem State.decodeErrorCycle_pc (s : State) (op : Byte) : (s.decodeErrorCycle op).pc = s.pc + 1#16 := by
  simp [State.decodeErrorCycle]
@[simp] theorem State.decodeErrorCycle_mem (s : State) (op : Byte) : (s.decodeErrorCycle op).mem = s.mem := by
  simp [State.decodeErrorCycle]
@[simp] theorem State.decodeErrorCycle_run (s : State) (op : Byte) :
    (s.decodeErrorCycle op).run = .faulted op s.pc := by simp [State.decodeErrorCycle]
@[simp] theorem State.decodeErrorCycle_svc (s : State) (op : Byte) : (s.decodeErrorCycle op).svc = s.svc := by
  simp [State.decodeErrorCycle]
@[simp] theorem State.decodeErrorCycle_cfg (s : State) (op : Byte) : (s.decodeErrorCycle op).cfg = s.cfg := by
  simp [State.decodeErrorCycle]
@[simp] theorem State.decodeErrorCycle_cyc (s : State) (op : Byte) : (s.decodeErrorCycle op).cyc = s.cyc + 1 := by
  simp [State.decodeErrorCycle]
@[simp] theorem State.decodeErrorCycle_t (s : State) (op : Byte) : (s.decodeErrorCycle op).t = s.t := by
  simp [State.decodeErrorCycle]
@[simp] theorem State.decodeErrorCycle_seq (s : State) (op : Byte) : (s.decodeErrorCycle op).seq = s.seq := by
  simp [State.decodeErrorCycle]
@[simp] theorem State.host_decodeErrorCycle (s : State) (op : Byte) : (s.decodeErrorCycle op).host = s.host := by
  simp [State.decodeErrorCycle]
@[simp] theorem State.decodeErrorCycle_bus (s : State) (op : Byte) :
    (s.decodeErrorCycle op).bus =
      { cyc := s.cyc, addr := s.pc, data := op, dir := .read, sync := true, vp := false } :: s.bus := by
  simp [State.decodeErrorCycle]

end Sys2Proof.Machine
end

