-- ==== Sys2Proof/Laws/Forms.lean ====
section
/-! SUPPORT. From the micro-op program of an opcode to the form of Sys2Proof/Safety.lean it has: one lemma for each cycle
template. -/

namespace Sys2Proof.Machine

/-! The number of cycles of the addressing part, as R152 counts it. -/

theorem readCycles_eq (s : State) (i : Instr) (m : DataMode) :
    (s.traceAddress i m false).length + 2 = readCycles m (s.crosses m i.op1) := by
  cases h : s.crosses m i.op1 <;> cases m <;>
    first
    | (simp [State.crosses] at h; done)
    | simp [State.traceAddress, State.traceAddress.indexing, h, readCycles]

theorem storeCycles_eq (s : State) (i : Instr) (m : DataMode) :
    (s.traceAddress i m true).length + 2 = storeCycles m := by
  cases h : s.crosses m i.op1 <;> cases m <;>
    simp [State.traceAddress, State.traceAddress.indexing, h, storeCycles]

/-- An instruction that stores one byte: the memory it leaves, byte by byte. -/
theorem stores_of_leaves {i : Instr} {s t : State} {r : Regs} {pc ea : Word} {v : Byte} {n : Nat}
    (h : exec i s = .next t)
    (hl : Leaves s t r pc (storeByte s.cfg.memcfg s.mem ea v) s.run s.svc s.host n) (he : Emits s t (s.trace i)) :
    Stores i s r pc ea v n :=
  ⟨t, h, hl, he, fun a => by
    rw [State.memRead, hl.cfg, hl.mem, readByte_storeByte]; rfl⟩

theorem impForm {op : Byte} {i : Instr} {f : Regs → Regs} (ho : opcodeOf i = op) (hp : program i = .imp f) :
    ImpForm op i f := by
  refine ⟨ho, fun s => ?_⟩
  obtain ⟨t, h, hl, he⟩ := runInstr_imp s i f
  exact ⟨t, by rw [exec_eq_runInstr, hp]; exact h, hl, by simpa only [State.trace, hp] using he⟩

theorem immForm {op : Byte} {mk : Byte → Instr} {f : Byte → Regs → Regs} (ho : ∀ b, opcodeOf (mk b) = op)
    (hp : ∀ b, program (mk b) = .imm false f) (h1 : ∀ b, (mk b).op1 = b) : ImmForm op mk f := by
  refine fun b => ⟨ho b, fun s => ?_⟩
  obtain ⟨t, h, hl, he⟩ := runInstr_imm s (mk b) false f rfl
  exact ⟨t, by rw [exec_eq_runInstr, hp]; exact h, by rw [h1] at hl; exact hl, by simpa [State.trace, hp] using he⟩

theorem decImmForm {op : Byte} {mk : Byte → Instr} {f : Byte → Regs → Regs} (ho : ∀ b, opcodeOf (mk b) = op)
    (hp : ∀ b, program (mk b) = .imm true f) (h1 : ∀ b, (mk b).op1 = b) : DecImmForm op mk f := by
  refine fun b => ⟨ho b, fun s => ?_⟩
  cases hd : s.r.p.d
  · obtain ⟨t, h, hl, he⟩ := runInstr_imm s (mk b) true f (by simp [hd])
    exact ⟨t, by rw [exec_eq_runInstr, hp]; exact h, by rw [h1] at hl; exact hl,
      by simpa [State.trace, hp, hd] using he⟩
  · obtain ⟨t, h, hl, he⟩ := runInstr_imm_decimal s (mk b) f hd
    exact ⟨t, by rw [exec_eq_runInstr, hp]; exact h, by rw [h1] at hl; exact hl,
      by simpa [State.trace, hp, hd] using he⟩

theorem completes_read {i : Instr} {m : DataMode} {decimal : Bool} {f : Byte → Regs → Regs}
    (hp : program i = .read m decimal f) (s : State) :
    Completes i s (f (s.memRead (s.effAddr m i.op1 i.op2)) s.r) (s.after m.bytes) s.mem
      (readCycles m (s.crosses m i.op1) + (decimal && s.r.p.d).toNat) := by
  obtain ⟨t, h, hl, he⟩ := runInstr_read s i m decimal f
  exact ⟨t, by rw [exec_eq_runInstr, hp]; exact h, by rw [readCycles_eq] at hl; exact hl,
    by simpa only [State.trace, hp] using he⟩

theorem readForm {op : Byte} {m : DataMode} {mk : Byte → Instr} {f : Byte → Regs → Regs}
    (ho : ∀ b, opcodeOf (mk b) = op) (hp : ∀ b, program (mk b) = .read m false f) (h1 : ∀ b, (mk b).op1 = b)
    (h2 : ∀ b, (mk b).op2 = 0x00#8) : ReadForm op m mk f :=
  fun b => ⟨ho b, fun s => by simpa [h1, h2] using completes_read (hp b) s⟩

theorem readForm2 {op : Byte} {m : DataMode} {mk : Byte → Byte → Instr} {f : Byte → Regs → Regs}
    (ho : ∀ lo hi, opcodeOf (mk lo hi) = op) (hp : ∀ lo hi, program (mk lo hi) = .read m false f)
    (h1 : ∀ lo hi, (mk lo hi).op1 = lo) (h2 : ∀ lo hi, (mk lo hi).op2 = hi) : ReadForm2 op m mk f :=
  fun lo hi => ⟨ho lo hi, fun s => by simpa [h1, h2] using completes_read (hp lo hi) s⟩

theorem decReadForm {op : Byte} {m : DataMode} {mk : Byte → Instr} {f : Byte → Regs → Regs}
    (ho : ∀ b, opcodeOf (mk b) = op) (hp : ∀ b, program (mk b) = .read m true f) (h1 : ∀ b, (mk b).op1 = b)
    (h2 : ∀ b, (mk b).op2 = 0x00#8) : DecReadForm op m mk f :=
  fun b => ⟨ho b, fun s => by simpa [h1, h2] using completes_read (hp b) s⟩

theorem decReadForm2 {op : Byte} {m : DataMode} {mk : Byte → Byte → Instr} {f : Byte → Regs → Regs}
    (ho : ∀ lo hi, opcodeOf (mk lo hi) = op) (hp : ∀ lo hi, program (mk lo hi) = .read m true f)
    (h1 : ∀ lo hi, (mk lo hi).op1 = lo) (h2 : ∀ lo hi, (mk lo hi).op2 = hi) : DecReadForm2 op m mk f :=
  fun lo hi => ⟨ho lo hi, fun s => by simpa [h1, h2] using completes_read (hp lo hi) s⟩

theorem stores_write {i : Instr} {m : DataMode} {v : Regs → Byte} (hp : program i = .write m v) (s : State) :
    Stores i s s.r (s.after m.bytes) (s.effAddr m i.op1 i.op2) (v s.r) (storeCycles m) := by
  obtain ⟨t, h, hl, he⟩ := runInstr_write s i m v
  rw [storeCycles_eq] at hl
  exact stores_of_leaves (by rw [exec_eq_runInstr, hp]; exact h) hl (by simpa only [State.trace, hp] using he)

theorem storeForm {op : Byte} {m : DataMode} {mk : Byte → Instr} {v : Regs → Byte}
    (ho : ∀ b, opcodeOf (mk b) = op) (hp : ∀ b, program (mk b) = .write m v) (h1 : ∀ b, (mk b).op1 = b)
    (h2 : ∀ b, (mk b).op2 = 0x00#8) : StoreForm op m mk v :=
  fun b => ⟨ho b, fun s => by simpa [h1, h2] using stores_write (hp b) s⟩

theorem storeForm2 {op : Byte} {m : DataMode} {mk : Byte → Byte → Instr} {v : Regs → Byte}
    (ho : ∀ lo hi, opcodeOf (mk lo hi) = op) (hp : ∀ lo hi, program (mk lo hi) = .write m v)
    (h1 : ∀ lo hi, (mk lo hi).op1 = lo) (h2 : ∀ lo hi, (mk lo hi).op2 = hi) : StoreForm2 op m mk v :=
  fun lo hi => ⟨ho lo hi, fun s => by simpa [h1, h2] using stores_write (hp lo hi) s⟩

theorem stores_modify {i : Instr} {m : DataMode} {always : Bool} {res : Byte → Regs → Byte} {fl : Byte → Regs → Flags}
    (hp : program i = .modify m always res fl) (s : State) :
    Stores i s { s.r with p := fl (s.memRead (s.effAddr m i.op1 i.op2)) s.r } (s.after m.bytes)
      (s.effAddr m i.op1 i.op2) (res (s.memRead (s.effAddr m i.op1 i.op2)) s.r)
      ((s.traceAddress i m always).length + 4) := by
  obtain ⟨t, h, hl, he⟩ := runInstr_modify s i m always res fl
  exact stores_of_leaves (by rw [exec_eq_runInstr, hp]; exact h) hl (by simpa only [State.trace, hp] using he)

/-- The memory forms of the shifts, INC, DEC, TSB, TRB, RMBn and SMBn at `zp` and `zpx`. -/
theorem modifyForm {op : Byte} {m : DataMode} {mk : Byte → Instr} {res : Byte → Regs → Byte}
    {fl : Byte → Regs → Flags} {n : Nat} (ho : ∀ b, opcodeOf (mk b) = op)
    (hp : ∀ b, program (mk b) = .modify m false res fl) (h1 : ∀ b, (mk b).op1 = b) (h2 : ∀ b, (mk b).op2 = 0x00#8)
    (hn : ∀ (s : State) (b : Byte), (s.traceAddress (mk b) m false).length + 4 = n) : ModifyForm op m mk res fl n :=
  fun b => ⟨ho b, fun s => by simpa [h1, h2, hn] using stores_modify (hp b) s⟩

/-- The same at `abs` and `abx`. -/
theorem modifyForm2 {op : Byte} {m : DataMode} {always : Bool} {mk : Byte → Byte → Instr} {res : Byte → Regs → Byte}
    {fl : Byte → Regs → Flags} {n : Bool → Nat} (ho : ∀ lo hi, opcodeOf (mk lo hi) = op)
    (hp : ∀ lo hi, program (mk lo hi) = .modify m always res fl) (h1 : ∀ lo hi, (mk lo hi).op1 = lo)
    (h2 : ∀ lo hi, (mk lo hi).op2 = hi)
    (hn : ∀ (s : State) (lo hi : Byte), (s.traceAddress (mk lo hi) m always).length + 4 = n (s.crosses m lo)) :
    ModifyForm2 op m mk res fl n :=
  fun lo hi => ⟨ho lo hi, fun s => by simpa [h1, h2, hn] using stores_modify (hp lo hi) s⟩

theorem pushForm {op : Byte} {i : Instr} {v : Regs → Byte} (ho : opcodeOf i = op) (hp : program i = .push v) :
    PushForm op i v := by
  refine ⟨ho, fun s => ?_⟩
  obtain ⟨t, h, hl, he⟩ := runInstr_push s i v
  exact stores_of_leaves (by rw [exec_eq_runInstr, hp]; exact h) hl (by simpa only [State.trace, hp] using he)

theorem pullForm {op : Byte} {i : Instr} {f : Byte → Regs → Regs} (ho : opcodeOf i = op) (hp : program i = .pull f) :
    PullForm op i f := by
  refine ⟨ho, fun s => ?_⟩
  obtain ⟨t, h, hl, he⟩ := runInstr_pull s i f
  exact ⟨t, by rw [exec_eq_runInstr, hp]; exact h, hl, by simpa only [State.trace, hp] using he⟩

theorem branchForm {op : Byte} {mk : Byte → Instr} {cond : Flags → Bool} (ho : ∀ b, opcodeOf (mk b) = op)
    (hp : ∀ b, program (mk b) = .branch cond) (h1 : ∀ b, (mk b).op1 = b) : BranchForm op mk cond := by
  refine fun off => ⟨ho off, fun s => ⟨fun hc => ?_, fun hc => ?_⟩⟩
  · split <;> rename_i hx
    · obtain ⟨t, h, hl, he⟩ := runInstr_branch_taken s (mk off) cond hc (by rw [h1]; exact hx)
      exact ⟨t, by rw [exec_eq_runInstr, hp]; exact h, by rw [h1] at hl; exact hl,
        by rw [h1] at he; simpa [State.trace, hp, State.traceBranch, branchTaken, hc, hx, h1] using he⟩
    · obtain ⟨t, h, hl, he⟩ := runInstr_branch_crossed s (mk off) cond hc (by rw [h1]; exact hx)
      exact ⟨t, by rw [exec_eq_runInstr, hp]; exact h, by rw [h1] at hl; exact hl,
        by rw [h1] at he; simpa [State.trace, hp, State.traceBranch, branchTaken, hc, hx, h1] using he⟩
  · obtain ⟨t, h, hl, he⟩ := runInstr_branch_not_taken s (mk off) cond hc
    exact ⟨t, by rw [exec_eq_runInstr, hp]; exact h, hl,
      by simpa [State.trace, hp, State.traceBranch, branchTaken, hc, h1] using he⟩

theorem bitBranchForm {op : Byte} {mk : Byte → Byte → Instr} {n : Nat} {sense : Bool}
    (ho : ∀ z off, opcodeOf (mk z off) = op) (hp : ∀ z off, program (mk z off) = .bitBranch n sense)
    (h1 : ∀ z off, (mk z off).op1 = z) (h2 : ∀ z off, (mk z off).op2 = off) : BitBranchForm op mk n sense := by
  refine fun z off => ⟨ho z off, fun s => ⟨fun hc => ?_, fun hc => ?_⟩⟩
  · split <;> rename_i hx
    · obtain ⟨t, h, hl, he⟩ := runInstr_bitBranch_taken s (mk z off) n sense (by rw [h1]; exact hc) (by rw [h2]; exact hx)
      exact ⟨t, by rw [exec_eq_runInstr, hp]; exact h, by rw [h2] at hl; exact hl,
        by simpa [State.trace, hp, State.traceBranch, branchTaken, hc, hx, h1, h2] using he⟩
    · obtain ⟨t, h, hl, he⟩ := runInstr_bitBranch_crossed s (mk z off) n sense (by rw [h1]; exact hc)
        (by rw [h2]; exact hx)
      exact ⟨t, by rw [exec_eq_runInstr, hp]; exact h, by rw [h2] at hl; exact hl,
        by simpa [State.trace, hp, State.traceBranch, branchTaken, hc, hx, h1, h2] using he⟩
  · obtain ⟨t, h, hl, he⟩ := runInstr_bitBranch_not_taken s (mk z off) n sense (by rw [h1]; exact hc)
    exact ⟨t, by rw [exec_eq_runInstr, hp]; exact h, hl,
      by simpa [State.trace, hp, State.traceBranch, branchTaken, hc, h1] using he⟩

end Sys2Proof.Machine
end

