-- ==== Sys2Proof/Laws/PerInstr.lean ====
section
/-! SUPPORT. The family of statements made per instruction: EncodedForm, about the encoding of every constructor. -/

namespace Sys2Proof.Laws.EncodedForm

/-- An instruction's bytes: their number is the length of its addressing mode (30_encoding.md R80, R82), its opcode
value names its capability group (R88, R89), and the slot of its opcode (R86) builds the instruction back from them. -/
def Statement (i : Instr) : Prop :=
  (encode i).length = i.length ∧ opcodeGroup (opcodeOf i) = i.group ∧
    ∃ f, opcodeForm (opcodeOf i) = some f ∧ f.build ((encode i).getD 1 0x00#8) ((encode i).getD 2 0x00#8) = i

/-- The statement from the opcode value and the slot of that value. -/
theorem ofOpcode {i : Instr} (op : Byte) (f : Form) (hop : opcodeOf i = op) (hlen : (encode i).length = i.length)
    (hg : opcodeGroup op = i.group) (hf : opcodeForm op = some f)
    (hb : f.build ((encode i).getD 1 0x00#8) ((encode i).getD 2 0x00#8) = i) : Statement i :=
  ⟨hlen, hop ▸ hg, f, hop ▸ hf, hb⟩


theorem ldaImm (n : Byte) : Statement (.ldaImm n) := ofOpcode 0xA9#8 (.f2 .ldaImm) rfl rfl rfl rfl rfl
theorem ldaZp (zp : Byte) : Statement (.ldaZp zp) := ofOpcode 0xA5#8 (.f2 .ldaZp) rfl rfl rfl rfl rfl
theorem ldaZpx (zp : Byte) : Statement (.ldaZpx zp) := ofOpcode 0xB5#8 (.f2 .ldaZpx) rfl rfl rfl rfl rfl
theorem ldaAbs (lo hi : Byte) : Statement (.ldaAbs lo hi) := ofOpcode 0xAD#8 (.f3 .ldaAbs) rfl rfl rfl rfl rfl
theorem ldaAbx (lo hi : Byte) : Statement (.ldaAbx lo hi) := ofOpcode 0xBD#8 (.f3 .ldaAbx) rfl rfl rfl rfl rfl
theorem ldaAby (lo hi : Byte) : Statement (.ldaAby lo hi) := ofOpcode 0xB9#8 (.f3 .ldaAby) rfl rfl rfl rfl rfl
theorem ldaIzx (zp : Byte) : Statement (.ldaIzx zp) := ofOpcode 0xA1#8 (.f2 .ldaIzx) rfl rfl rfl rfl rfl
theorem ldaIzy (zp : Byte) : Statement (.ldaIzy zp) := ofOpcode 0xB1#8 (.f2 .ldaIzy) rfl rfl rfl rfl rfl
theorem ldaIzp (zp : Byte) : Statement (.ldaIzp zp) := ofOpcode 0xB2#8 (.f2 .ldaIzp) rfl rfl rfl rfl rfl
theorem ldxImm (n : Byte) : Statement (.ldxImm n) := ofOpcode 0xA2#8 (.f2 .ldxImm) rfl rfl rfl rfl rfl
theorem ldxZp (zp : Byte) : Statement (.ldxZp zp) := ofOpcode 0xA6#8 (.f2 .ldxZp) rfl rfl rfl rfl rfl
theorem ldxZpy (zp : Byte) : Statement (.ldxZpy zp) := ofOpcode 0xB6#8 (.f2 .ldxZpy) rfl rfl rfl rfl rfl
theorem ldxAbs (lo hi : Byte) : Statement (.ldxAbs lo hi) := ofOpcode 0xAE#8 (.f3 .ldxAbs) rfl rfl rfl rfl rfl
theorem ldxAby (lo hi : Byte) : Statement (.ldxAby lo hi) := ofOpcode 0xBE#8 (.f3 .ldxAby) rfl rfl rfl rfl rfl
theorem ldyImm (n : Byte) : Statement (.ldyImm n) := ofOpcode 0xA0#8 (.f2 .ldyImm) rfl rfl rfl rfl rfl
theorem ldyZp (zp : Byte) : Statement (.ldyZp zp) := ofOpcode 0xA4#8 (.f2 .ldyZp) rfl rfl rfl rfl rfl
theorem ldyZpx (zp : Byte) : Statement (.ldyZpx zp) := ofOpcode 0xB4#8 (.f2 .ldyZpx) rfl rfl rfl rfl rfl
theorem ldyAbs (lo hi : Byte) : Statement (.ldyAbs lo hi) := ofOpcode 0xAC#8 (.f3 .ldyAbs) rfl rfl rfl rfl rfl
theorem ldyAbx (lo hi : Byte) : Statement (.ldyAbx lo hi) := ofOpcode 0xBC#8 (.f3 .ldyAbx) rfl rfl rfl rfl rfl
theorem staZp (zp : Byte) : Statement (.staZp zp) := ofOpcode 0x85#8 (.f2 .staZp) rfl rfl rfl rfl rfl
theorem staZpx (zp : Byte) : Statement (.staZpx zp) := ofOpcode 0x95#8 (.f2 .staZpx) rfl rfl rfl rfl rfl
theorem staAbs (lo hi : Byte) : Statement (.staAbs lo hi) := ofOpcode 0x8D#8 (.f3 .staAbs) rfl rfl rfl rfl rfl
theorem staAbx (lo hi : Byte) : Statement (.staAbx lo hi) := ofOpcode 0x9D#8 (.f3 .staAbx) rfl rfl rfl rfl rfl
theorem staAby (lo hi : Byte) : Statement (.staAby lo hi) := ofOpcode 0x99#8 (.f3 .staAby) rfl rfl rfl rfl rfl
theorem staIzx (zp : Byte) : Statement (.staIzx zp) := ofOpcode 0x81#8 (.f2 .staIzx) rfl rfl rfl rfl rfl
theorem staIzy (zp : Byte) : Statement (.staIzy zp) := ofOpcode 0x91#8 (.f2 .staIzy) rfl rfl rfl rfl rfl
theorem staIzp (zp : Byte) : Statement (.staIzp zp) := ofOpcode 0x92#8 (.f2 .staIzp) rfl rfl rfl rfl rfl
theorem stxZp (zp : Byte) : Statement (.stxZp zp) := ofOpcode 0x86#8 (.f2 .stxZp) rfl rfl rfl rfl rfl
theorem stxZpy (zp : Byte) : Statement (.stxZpy zp) := ofOpcode 0x96#8 (.f2 .stxZpy) rfl rfl rfl rfl rfl
theorem stxAbs (lo hi : Byte) : Statement (.stxAbs lo hi) := ofOpcode 0x8E#8 (.f3 .stxAbs) rfl rfl rfl rfl rfl
theorem styZp (zp : Byte) : Statement (.styZp zp) := ofOpcode 0x84#8 (.f2 .styZp) rfl rfl rfl rfl rfl
theorem styZpx (zp : Byte) : Statement (.styZpx zp) := ofOpcode 0x94#8 (.f2 .styZpx) rfl rfl rfl rfl rfl
theorem styAbs (lo hi : Byte) : Statement (.styAbs lo hi) := ofOpcode 0x8C#8 (.f3 .styAbs) rfl rfl rfl rfl rfl
theorem stzZp (zp : Byte) : Statement (.stzZp zp) := ofOpcode 0x64#8 (.f2 .stzZp) rfl rfl rfl rfl rfl
theorem stzZpx (zp : Byte) : Statement (.stzZpx zp) := ofOpcode 0x74#8 (.f2 .stzZpx) rfl rfl rfl rfl rfl
theorem stzAbs (lo hi : Byte) : Statement (.stzAbs lo hi) := ofOpcode 0x9C#8 (.f3 .stzAbs) rfl rfl rfl rfl rfl
theorem stzAbx (lo hi : Byte) : Statement (.stzAbx lo hi) := ofOpcode 0x9E#8 (.f3 .stzAbx) rfl rfl rfl rfl rfl
theorem tax : Statement .tax := ofOpcode 0xAA#8 (.f1 .tax) rfl rfl rfl rfl rfl
theorem tay : Statement .tay := ofOpcode 0xA8#8 (.f1 .tay) rfl rfl rfl rfl rfl
theorem txa : Statement .txa := ofOpcode 0x8A#8 (.f1 .txa) rfl rfl rfl rfl rfl
theorem tya : Statement .tya := ofOpcode 0x98#8 (.f1 .tya) rfl rfl rfl rfl rfl
theorem tsx : Statement .tsx := ofOpcode 0xBA#8 (.f1 .tsx) rfl rfl rfl rfl rfl
theorem txs : Statement .txs := ofOpcode 0x9A#8 (.f1 .txs) rfl rfl rfl rfl rfl
theorem pha : Statement .pha := ofOpcode 0x48#8 (.f1 .pha) rfl rfl rfl rfl rfl
theorem phx : Statement .phx := ofOpcode 0xDA#8 (.f1 .phx) rfl rfl rfl rfl rfl
theorem phy : Statement .phy := ofOpcode 0x5A#8 (.f1 .phy) rfl rfl rfl rfl rfl
theorem php : Statement .php := ofOpcode 0x08#8 (.f1 .php) rfl rfl rfl rfl rfl
theorem pla : Statement .pla := ofOpcode 0x68#8 (.f1 .pla) rfl rfl rfl rfl rfl
theorem plx : Statement .plx := ofOpcode 0xFA#8 (.f1 .plx) rfl rfl rfl rfl rfl
theorem ply : Statement .ply := ofOpcode 0x7A#8 (.f1 .ply) rfl rfl rfl rfl rfl
theorem plp : Statement .plp := ofOpcode 0x28#8 (.f1 .plp) rfl rfl rfl rfl rfl
theorem adcImm (n : Byte) : Statement (.adcImm n) := ofOpcode 0x69#8 (.f2 .adcImm) rfl rfl rfl rfl rfl
theorem adcZp (zp : Byte) : Statement (.adcZp zp) := ofOpcode 0x65#8 (.f2 .adcZp) rfl rfl rfl rfl rfl
theorem adcZpx (zp : Byte) : Statement (.adcZpx zp) := ofOpcode 0x75#8 (.f2 .adcZpx) rfl rfl rfl rfl rfl
theorem adcAbs (lo hi : Byte) : Statement (.adcAbs lo hi) := ofOpcode 0x6D#8 (.f3 .adcAbs) rfl rfl rfl rfl rfl
theorem adcAbx (lo hi : Byte) : Statement (.adcAbx lo hi) := ofOpcode 0x7D#8 (.f3 .adcAbx) rfl rfl rfl rfl rfl
theorem adcAby (lo hi : Byte) : Statement (.adcAby lo hi) := ofOpcode 0x79#8 (.f3 .adcAby) rfl rfl rfl rfl rfl
theorem adcIzx (zp : Byte) : Statement (.adcIzx zp) := ofOpcode 0x61#8 (.f2 .adcIzx) rfl rfl rfl rfl rfl
theorem adcIzy (zp : Byte) : Statement (.adcIzy zp) := ofOpcode 0x71#8 (.f2 .adcIzy) rfl rfl rfl rfl rfl
theorem adcIzp (zp : Byte) : Statement (.adcIzp zp) := ofOpcode 0x72#8 (.f2 .adcIzp) rfl rfl rfl rfl rfl
theorem sbcImm (n : Byte) : Statement (.sbcImm n) := ofOpcode 0xE9#8 (.f2 .sbcImm) rfl rfl rfl rfl rfl
theorem sbcZp (zp : Byte) : Statement (.sbcZp zp) := ofOpcode 0xE5#8 (.f2 .sbcZp) rfl rfl rfl rfl rfl
theorem sbcZpx (zp : Byte) : Statement (.sbcZpx zp) := ofOpcode 0xF5#8 (.f2 .sbcZpx) rfl rfl rfl rfl rfl
theorem sbcAbs (lo hi : Byte) : Statement (.sbcAbs lo hi) := ofOpcode 0xED#8 (.f3 .sbcAbs) rfl rfl rfl rfl rfl
theorem sbcAbx (lo hi : Byte) : Statement (.sbcAbx lo hi) := ofOpcode 0xFD#8 (.f3 .sbcAbx) rfl rfl rfl rfl rfl
theorem sbcAby (lo hi : Byte) : Statement (.sbcAby lo hi) := ofOpcode 0xF9#8 (.f3 .sbcAby) rfl rfl rfl rfl rfl
theorem sbcIzx (zp : Byte) : Statement (.sbcIzx zp) := ofOpcode 0xE1#8 (.f2 .sbcIzx) rfl rfl rfl rfl rfl
theorem sbcIzy (zp : Byte) : Statement (.sbcIzy zp) := ofOpcode 0xF1#8 (.f2 .sbcIzy) rfl rfl rfl rfl rfl
theorem sbcIzp (zp : Byte) : Statement (.sbcIzp zp) := ofOpcode 0xF2#8 (.f2 .sbcIzp) rfl rfl rfl rfl rfl
theorem andImm (n : Byte) : Statement (.andImm n) := ofOpcode 0x29#8 (.f2 .andImm) rfl rfl rfl rfl rfl
theorem andZp (zp : Byte) : Statement (.andZp zp) := ofOpcode 0x25#8 (.f2 .andZp) rfl rfl rfl rfl rfl
theorem andZpx (zp : Byte) : Statement (.andZpx zp) := ofOpcode 0x35#8 (.f2 .andZpx) rfl rfl rfl rfl rfl
theorem andAbs (lo hi : Byte) : Statement (.andAbs lo hi) := ofOpcode 0x2D#8 (.f3 .andAbs) rfl rfl rfl rfl rfl
theorem andAbx (lo hi : Byte) : Statement (.andAbx lo hi) := ofOpcode 0x3D#8 (.f3 .andAbx) rfl rfl rfl rfl rfl
theorem andAby (lo hi : Byte) : Statement (.andAby lo hi) := ofOpcode 0x39#8 (.f3 .andAby) rfl rfl rfl rfl rfl
theorem andIzx (zp : Byte) : Statement (.andIzx zp) := ofOpcode 0x21#8 (.f2 .andIzx) rfl rfl rfl rfl rfl
theorem andIzy (zp : Byte) : Statement (.andIzy zp) := ofOpcode 0x31#8 (.f2 .andIzy) rfl rfl rfl rfl rfl
theorem andIzp (zp : Byte) : Statement (.andIzp zp) := ofOpcode 0x32#8 (.f2 .andIzp) rfl rfl rfl rfl rfl
theorem oraImm (n : Byte) : Statement (.oraImm n) := ofOpcode 0x09#8 (.f2 .oraImm) rfl rfl rfl rfl rfl
theorem oraZp (zp : Byte) : Statement (.oraZp zp) := ofOpcode 0x05#8 (.f2 .oraZp) rfl rfl rfl rfl rfl
theorem oraZpx (zp : Byte) : Statement (.oraZpx zp) := ofOpcode 0x15#8 (.f2 .oraZpx) rfl rfl rfl rfl rfl
theorem oraAbs (lo hi : Byte) : Statement (.oraAbs lo hi) := ofOpcode 0x0D#8 (.f3 .oraAbs) rfl rfl rfl rfl rfl
theorem oraAbx (lo hi : Byte) : Statement (.oraAbx lo hi) := ofOpcode 0x1D#8 (.f3 .oraAbx) rfl rfl rfl rfl rfl
theorem oraAby (lo hi : Byte) : Statement (.oraAby lo hi) := ofOpcode 0x19#8 (.f3 .oraAby) rfl rfl rfl rfl rfl
theorem oraIzx (zp : Byte) : Statement (.oraIzx zp) := ofOpcode 0x01#8 (.f2 .oraIzx) rfl rfl rfl rfl rfl
theorem oraIzy (zp : Byte) : Statement (.oraIzy zp) := ofOpcode 0x11#8 (.f2 .oraIzy) rfl rfl rfl rfl rfl
theorem oraIzp (zp : Byte) : Statement (.oraIzp zp) := ofOpcode 0x12#8 (.f2 .oraIzp) rfl rfl rfl rfl rfl
theorem eorImm (n : Byte) : Statement (.eorImm n) := ofOpcode 0x49#8 (.f2 .eorImm) rfl rfl rfl rfl rfl
theorem eorZp (zp : Byte) : Statement (.eorZp zp) := ofOpcode 0x45#8 (.f2 .eorZp) rfl rfl rfl rfl rfl
theorem eorZpx (zp : Byte) : Statement (.eorZpx zp) := ofOpcode 0x55#8 (.f2 .eorZpx) rfl rfl rfl rfl rfl
theorem eorAbs (lo hi : Byte) : Statement (.eorAbs lo hi) := ofOpcode 0x4D#8 (.f3 .eorAbs) rfl rfl rfl rfl rfl
theorem eorAbx (lo hi : Byte) : Statement (.eorAbx lo hi) := ofOpcode 0x5D#8 (.f3 .eorAbx) rfl rfl rfl rfl rfl
theorem eorAby (lo hi : Byte) : Statement (.eorAby lo hi) := ofOpcode 0x59#8 (.f3 .eorAby) rfl rfl rfl rfl rfl
theorem eorIzx (zp : Byte) : Statement (.eorIzx zp) := ofOpcode 0x41#8 (.f2 .eorIzx) rfl rfl rfl rfl rfl
theorem eorIzy (zp : Byte) : Statement (.eorIzy zp) := ofOpcode 0x51#8 (.f2 .eorIzy) rfl rfl rfl rfl rfl
theorem eorIzp (zp : Byte) : Statement (.eorIzp zp) := ofOpcode 0x52#8 (.f2 .eorIzp) rfl rfl rfl rfl rfl
theorem cmpImm (n : Byte) : Statement (.cmpImm n) := ofOpcode 0xC9#8 (.f2 .cmpImm) rfl rfl rfl rfl rfl
theorem cmpZp (zp : Byte) : Statement (.cmpZp zp) := ofOpcode 0xC5#8 (.f2 .cmpZp) rfl rfl rfl rfl rfl
theorem cmpZpx (zp : Byte) : Statement (.cmpZpx zp) := ofOpcode 0xD5#8 (.f2 .cmpZpx) rfl rfl rfl rfl rfl
theorem cmpAbs (lo hi : Byte) : Statement (.cmpAbs lo hi) := ofOpcode 0xCD#8 (.f3 .cmpAbs) rfl rfl rfl rfl rfl
theorem cmpAbx (lo hi : Byte) : Statement (.cmpAbx lo hi) := ofOpcode 0xDD#8 (.f3 .cmpAbx) rfl rfl rfl rfl rfl
theorem cmpAby (lo hi : Byte) : Statement (.cmpAby lo hi) := ofOpcode 0xD9#8 (.f3 .cmpAby) rfl rfl rfl rfl rfl
theorem cmpIzx (zp : Byte) : Statement (.cmpIzx zp) := ofOpcode 0xC1#8 (.f2 .cmpIzx) rfl rfl rfl rfl rfl
theorem cmpIzy (zp : Byte) : Statement (.cmpIzy zp) := ofOpcode 0xD1#8 (.f2 .cmpIzy) rfl rfl rfl rfl rfl
theorem cmpIzp (zp : Byte) : Statement (.cmpIzp zp) := ofOpcode 0xD2#8 (.f2 .cmpIzp) rfl rfl rfl rfl rfl
theorem cpxImm (n : Byte) : Statement (.cpxImm n) := ofOpcode 0xE0#8 (.f2 .cpxImm) rfl rfl rfl rfl rfl
theorem cpxZp (zp : Byte) : Statement (.cpxZp zp) := ofOpcode 0xE4#8 (.f2 .cpxZp) rfl rfl rfl rfl rfl
theorem cpxAbs (lo hi : Byte) : Statement (.cpxAbs lo hi) := ofOpcode 0xEC#8 (.f3 .cpxAbs) rfl rfl rfl rfl rfl
theorem cpyImm (n : Byte) : Statement (.cpyImm n) := ofOpcode 0xC0#8 (.f2 .cpyImm) rfl rfl rfl rfl rfl
theorem cpyZp (zp : Byte) : Statement (.cpyZp zp) := ofOpcode 0xC4#8 (.f2 .cpyZp) rfl rfl rfl rfl rfl
theorem cpyAbs (lo hi : Byte) : Statement (.cpyAbs lo hi) := ofOpcode 0xCC#8 (.f3 .cpyAbs) rfl rfl rfl rfl rfl
theorem bitImm (n : Byte) : Statement (.bitImm n) := ofOpcode 0x89#8 (.f2 .bitImm) rfl rfl rfl rfl rfl
theorem bitZp (zp : Byte) : Statement (.bitZp zp) := ofOpcode 0x24#8 (.f2 .bitZp) rfl rfl rfl rfl rfl
theorem bitZpx (zp : Byte) : Statement (.bitZpx zp) := ofOpcode 0x34#8 (.f2 .bitZpx) rfl rfl rfl rfl rfl
theorem bitAbs (lo hi : Byte) : Statement (.bitAbs lo hi) := ofOpcode 0x2C#8 (.f3 .bitAbs) rfl rfl rfl rfl rfl
theorem bitAbx (lo hi : Byte) : Statement (.bitAbx lo hi) := ofOpcode 0x3C#8 (.f3 .bitAbx) rfl rfl rfl rfl rfl
theorem aslAcc : Statement .aslAcc := ofOpcode 0x0A#8 (.f1 .aslAcc) rfl rfl rfl rfl rfl
theorem aslZp (zp : Byte) : Statement (.aslZp zp) := ofOpcode 0x06#8 (.f2 .aslZp) rfl rfl rfl rfl rfl
theorem aslZpx (zp : Byte) : Statement (.aslZpx zp) := ofOpcode 0x16#8 (.f2 .aslZpx) rfl rfl rfl rfl rfl
theorem aslAbs (lo hi : Byte) : Statement (.aslAbs lo hi) := ofOpcode 0x0E#8 (.f3 .aslAbs) rfl rfl rfl rfl rfl
theorem aslAbx (lo hi : Byte) : Statement (.aslAbx lo hi) := ofOpcode 0x1E#8 (.f3 .aslAbx) rfl rfl rfl rfl rfl
theorem lsrAcc : Statement .lsrAcc := ofOpcode 0x4A#8 (.f1 .lsrAcc) rfl rfl rfl rfl rfl
theorem lsrZp (zp : Byte) : Statement (.lsrZp zp) := ofOpcode 0x46#8 (.f2 .lsrZp) rfl rfl rfl rfl rfl
theorem lsrZpx (zp : Byte) : Statement (.lsrZpx zp) := ofOpcode 0x56#8 (.f2 .lsrZpx) rfl rfl rfl rfl rfl
theorem lsrAbs (lo hi : Byte) : Statement (.lsrAbs lo hi) := ofOpcode 0x4E#8 (.f3 .lsrAbs) rfl rfl rfl rfl rfl
theorem lsrAbx (lo hi : Byte) : Statement (.lsrAbx lo hi) := ofOpcode 0x5E#8 (.f3 .lsrAbx) rfl rfl rfl rfl rfl
theorem rolAcc : Statement .rolAcc := ofOpcode 0x2A#8 (.f1 .rolAcc) rfl rfl rfl rfl rfl
theorem rolZp (zp : Byte) : Statement (.rolZp zp) := ofOpcode 0x26#8 (.f2 .rolZp) rfl rfl rfl rfl rfl
theorem rolZpx (zp : Byte) : Statement (.rolZpx zp) := ofOpcode 0x36#8 (.f2 .rolZpx) rfl rfl rfl rfl rfl
theorem rolAbs (lo hi : Byte) : Statement (.rolAbs lo hi) := ofOpcode 0x2E#8 (.f3 .rolAbs) rfl rfl rfl rfl rfl
theorem rolAbx (lo hi : Byte) : Statement (.rolAbx lo hi) := ofOpcode 0x3E#8 (.f3 .rolAbx) rfl rfl rfl rfl rfl
theorem rorAcc : Statement .rorAcc := ofOpcode 0x6A#8 (.f1 .rorAcc) rfl rfl rfl rfl rfl
theorem rorZp (zp : Byte) : Statement (.rorZp zp) := ofOpcode 0x66#8 (.f2 .rorZp) rfl rfl rfl rfl rfl
theorem rorZpx (zp : Byte) : Statement (.rorZpx zp) := ofOpcode 0x76#8 (.f2 .rorZpx) rfl rfl rfl rfl rfl
theorem rorAbs (lo hi : Byte) : Statement (.rorAbs lo hi) := ofOpcode 0x6E#8 (.f3 .rorAbs) rfl rfl rfl rfl rfl
theorem rorAbx (lo hi : Byte) : Statement (.rorAbx lo hi) := ofOpcode 0x7E#8 (.f3 .rorAbx) rfl rfl rfl rfl rfl
theorem incAcc : Statement .incAcc := ofOpcode 0x1A#8 (.f1 .incAcc) rfl rfl rfl rfl rfl
theorem incZp (zp : Byte) : Statement (.incZp zp) := ofOpcode 0xE6#8 (.f2 .incZp) rfl rfl rfl rfl rfl
theorem incZpx (zp : Byte) : Statement (.incZpx zp) := ofOpcode 0xF6#8 (.f2 .incZpx) rfl rfl rfl rfl rfl
theorem incAbs (lo hi : Byte) : Statement (.incAbs lo hi) := ofOpcode 0xEE#8 (.f3 .incAbs) rfl rfl rfl rfl rfl
theorem incAbx (lo hi : Byte) : Statement (.incAbx lo hi) := ofOpcode 0xFE#8 (.f3 .incAbx) rfl rfl rfl rfl rfl
theorem decAcc : Statement .decAcc := ofOpcode 0x3A#8 (.f1 .decAcc) rfl rfl rfl rfl rfl
theorem decZp (zp : Byte) : Statement (.decZp zp) := ofOpcode 0xC6#8 (.f2 .decZp) rfl rfl rfl rfl rfl
theorem decZpx (zp : Byte) : Statement (.decZpx zp) := ofOpcode 0xD6#8 (.f2 .decZpx) rfl rfl rfl rfl rfl
theorem decAbs (lo hi : Byte) : Statement (.decAbs lo hi) := ofOpcode 0xCE#8 (.f3 .decAbs) rfl rfl rfl rfl rfl
theorem decAbx (lo hi : Byte) : Statement (.decAbx lo hi) := ofOpcode 0xDE#8 (.f3 .decAbx) rfl rfl rfl rfl rfl
theorem inx : Statement .inx := ofOpcode 0xE8#8 (.f1 .inx) rfl rfl rfl rfl rfl
theorem iny : Statement .iny := ofOpcode 0xC8#8 (.f1 .iny) rfl rfl rfl rfl rfl
theorem dex : Statement .dex := ofOpcode 0xCA#8 (.f1 .dex) rfl rfl rfl rfl rfl
theorem dey : Statement .dey := ofOpcode 0x88#8 (.f1 .dey) rfl rfl rfl rfl rfl
theorem tsbZp (zp : Byte) : Statement (.tsbZp zp) := ofOpcode 0x04#8 (.f2 .tsbZp) rfl rfl rfl rfl rfl
theorem tsbAbs (lo hi : Byte) : Statement (.tsbAbs lo hi) := ofOpcode 0x0C#8 (.f3 .tsbAbs) rfl rfl rfl rfl rfl
theorem trbZp (zp : Byte) : Statement (.trbZp zp) := ofOpcode 0x14#8 (.f2 .trbZp) rfl rfl rfl rfl rfl
theorem trbAbs (lo hi : Byte) : Statement (.trbAbs lo hi) := ofOpcode 0x1C#8 (.f3 .trbAbs) rfl rfl rfl rfl rfl
theorem rmb0 (zp : Byte) : Statement (.rmb0 zp) := ofOpcode 0x07#8 (.f2 .rmb0) rfl rfl rfl rfl rfl
theorem rmb1 (zp : Byte) : Statement (.rmb1 zp) := ofOpcode 0x17#8 (.f2 .rmb1) rfl rfl rfl rfl rfl
theorem rmb2 (zp : Byte) : Statement (.rmb2 zp) := ofOpcode 0x27#8 (.f2 .rmb2) rfl rfl rfl rfl rfl
theorem rmb3 (zp : Byte) : Statement (.rmb3 zp) := ofOpcode 0x37#8 (.f2 .rmb3) rfl rfl rfl rfl rfl
theorem rmb4 (zp : Byte) : Statement (.rmb4 zp) := ofOpcode 0x47#8 (.f2 .rmb4) rfl rfl rfl rfl rfl
theorem rmb5 (zp : Byte) : Statement (.rmb5 zp) := ofOpcode 0x57#8 (.f2 .rmb5) rfl rfl rfl rfl rfl
theorem rmb6 (zp : Byte) : Statement (.rmb6 zp) := ofOpcode 0x67#8 (.f2 .rmb6) rfl rfl rfl rfl rfl
theorem rmb7 (zp : Byte) : Statement (.rmb7 zp) := ofOpcode 0x77#8 (.f2 .rmb7) rfl rfl rfl rfl rfl
theorem smb0 (zp : Byte) : Statement (.smb0 zp) := ofOpcode 0x87#8 (.f2 .smb0) rfl rfl rfl rfl rfl
theorem smb1 (zp : Byte) : Statement (.smb1 zp) := ofOpcode 0x97#8 (.f2 .smb1) rfl rfl rfl rfl rfl
theorem smb2 (zp : Byte) : Statement (.smb2 zp) := ofOpcode 0xA7#8 (.f2 .smb2) rfl rfl rfl rfl rfl
theorem smb3 (zp : Byte) : Statement (.smb3 zp) := ofOpcode 0xB7#8 (.f2 .smb3) rfl rfl rfl rfl rfl
theorem smb4 (zp : Byte) : Statement (.smb4 zp) := ofOpcode 0xC7#8 (.f2 .smb4) rfl rfl rfl rfl rfl
theorem smb5 (zp : Byte) : Statement (.smb5 zp) := ofOpcode 0xD7#8 (.f2 .smb5) rfl rfl rfl rfl rfl
theorem smb6 (zp : Byte) : Statement (.smb6 zp) := ofOpcode 0xE7#8 (.f2 .smb6) rfl rfl rfl rfl rfl
theorem smb7 (zp : Byte) : Statement (.smb7 zp) := ofOpcode 0xF7#8 (.f2 .smb7) rfl rfl rfl rfl rfl
theorem bcc (off : Byte) : Statement (.bcc off) := ofOpcode 0x90#8 (.f2 .bcc) rfl rfl rfl rfl rfl
theorem bcs (off : Byte) : Statement (.bcs off) := ofOpcode 0xB0#8 (.f2 .bcs) rfl rfl rfl rfl rfl
theorem beq (off : Byte) : Statement (.beq off) := ofOpcode 0xF0#8 (.f2 .beq) rfl rfl rfl rfl rfl
theorem bne (off : Byte) : Statement (.bne off) := ofOpcode 0xD0#8 (.f2 .bne) rfl rfl rfl rfl rfl
theorem bmi (off : Byte) : Statement (.bmi off) := ofOpcode 0x30#8 (.f2 .bmi) rfl rfl rfl rfl rfl
theorem bpl (off : Byte) : Statement (.bpl off) := ofOpcode 0x10#8 (.f2 .bpl) rfl rfl rfl rfl rfl
theorem bvc (off : Byte) : Statement (.bvc off) := ofOpcode 0x50#8 (.f2 .bvc) rfl rfl rfl rfl rfl
theorem bvs (off : Byte) : Statement (.bvs off) := ofOpcode 0x70#8 (.f2 .bvs) rfl rfl rfl rfl rfl
theorem bra (off : Byte) : Statement (.bra off) := ofOpcode 0x80#8 (.f2 .bra) rfl rfl rfl rfl rfl
theorem bbr0 (zp off : Byte) : Statement (.bbr0 zp off) := ofOpcode 0x0F#8 (.f3 .bbr0) rfl rfl rfl rfl rfl
theorem bbr1 (zp off : Byte) : Statement (.bbr1 zp off) := ofOpcode 0x1F#8 (.f3 .bbr1) rfl rfl rfl rfl rfl
theorem bbr2 (zp off : Byte) : Statement (.bbr2 zp off) := ofOpcode 0x2F#8 (.f3 .bbr2) rfl rfl rfl rfl rfl
theorem bbr3 (zp off : Byte) : Statement (.bbr3 zp off) := ofOpcode 0x3F#8 (.f3 .bbr3) rfl rfl rfl rfl rfl
theorem bbr4 (zp off : Byte) : Statement (.bbr4 zp off) := ofOpcode 0x4F#8 (.f3 .bbr4) rfl rfl rfl rfl rfl
theorem bbr5 (zp off : Byte) : Statement (.bbr5 zp off) := ofOpcode 0x5F#8 (.f3 .bbr5) rfl rfl rfl rfl rfl
theorem bbr6 (zp off : Byte) : Statement (.bbr6 zp off) := ofOpcode 0x6F#8 (.f3 .bbr6) rfl rfl rfl rfl rfl
theorem bbr7 (zp off : Byte) : Statement (.bbr7 zp off) := ofOpcode 0x7F#8 (.f3 .bbr7) rfl rfl rfl rfl rfl
theorem bbs0 (zp off : Byte) : Statement (.bbs0 zp off) := ofOpcode 0x8F#8 (.f3 .bbs0) rfl rfl rfl rfl rfl
theorem bbs1 (zp off : Byte) : Statement (.bbs1 zp off) := ofOpcode 0x9F#8 (.f3 .bbs1) rfl rfl rfl rfl rfl
theorem bbs2 (zp off : Byte) : Statement (.bbs2 zp off) := ofOpcode 0xAF#8 (.f3 .bbs2) rfl rfl rfl rfl rfl
theorem bbs3 (zp off : Byte) : Statement (.bbs3 zp off) := ofOpcode 0xBF#8 (.f3 .bbs3) rfl rfl rfl rfl rfl
theorem bbs4 (zp off : Byte) : Statement (.bbs4 zp off) := ofOpcode 0xCF#8 (.f3 .bbs4) rfl rfl rfl rfl rfl
theorem bbs5 (zp off : Byte) : Statement (.bbs5 zp off) := ofOpcode 0xDF#8 (.f3 .bbs5) rfl rfl rfl rfl rfl
theorem bbs6 (zp off : Byte) : Statement (.bbs6 zp off) := ofOpcode 0xEF#8 (.f3 .bbs6) rfl rfl rfl rfl rfl
theorem bbs7 (zp off : Byte) : Statement (.bbs7 zp off) := ofOpcode 0xFF#8 (.f3 .bbs7) rfl rfl rfl rfl rfl
theorem jmpAbs (lo hi : Byte) : Statement (.jmpAbs lo hi) := ofOpcode 0x4C#8 (.f3 .jmpAbs) rfl rfl rfl rfl rfl
theorem jmpInd (lo hi : Byte) : Statement (.jmpInd lo hi) := ofOpcode 0x6C#8 (.f3 .jmpInd) rfl rfl rfl rfl rfl
theorem jmpIax (lo hi : Byte) : Statement (.jmpIax lo hi) := ofOpcode 0x7C#8 (.f3 .jmpIax) rfl rfl rfl rfl rfl
theorem jsr (lo hi : Byte) : Statement (.jsr lo hi) := ofOpcode 0x20#8 (.f3 .jsr) rfl rfl rfl rfl rfl
theorem rts : Statement .rts := ofOpcode 0x60#8 (.f1 .rts) rfl rfl rfl rfl rfl
theorem clc : Statement .clc := ofOpcode 0x18#8 (.f1 .clc) rfl rfl rfl rfl rfl
theorem sec : Statement .sec := ofOpcode 0x38#8 (.f1 .sec) rfl rfl rfl rfl rfl
theorem cld : Statement .cld := ofOpcode 0xD8#8 (.f1 .cld) rfl rfl rfl rfl rfl
theorem sed : Statement .sed := ofOpcode 0xF8#8 (.f1 .sed) rfl rfl rfl rfl rfl
theorem cli : Statement .cli := ofOpcode 0x58#8 (.f1 .cli) rfl rfl rfl rfl rfl
theorem sei : Statement .sei := ofOpcode 0x78#8 (.f1 .sei) rfl rfl rfl rfl rfl
theorem clv : Statement .clv := ofOpcode 0xB8#8 (.f1 .clv) rfl rfl rfl rfl rfl
theorem brk : Statement .brk := ofOpcode 0x00#8 (.f1 .brk) rfl rfl rfl rfl rfl
theorem rti : Statement .rti := ofOpcode 0x40#8 (.f1 .rti) rfl rfl rfl rfl rfl
theorem nop : Statement .nop := ofOpcode 0xEA#8 (.f1 .nop) rfl rfl rfl rfl rfl
theorem wai : Statement .wai := ofOpcode 0xCB#8 (.f1 .wai) rfl rfl rfl rfl rfl
theorem stp : Statement .stp := ofOpcode 0xDB#8 (.f1 .stp) rfl rfl rfl rfl rfl

end Sys2Proof.Laws.EncodedForm
end

