-- ==== Sys2Proof/Tests/Slice0.lean ====
section
/-! SUPPORT. The model's own tests: decoding of words written out bit by bit, ill-formed terms, one step on small states
with the results of 96_test_vectors_derived.md, and for every obligation with hypotheses a witness that meets them. -/

namespace Sys2Proof.Tests

open Sys2Proof Sys2Proof.Machine

/-- Registers with the six flags N V D I Z C written as a word. -/
def regs (a x y sp : Byte) (nvdizc : BitVec 6) : Regs :=
  { a := a, x := x, y := y, sp := sp,
    p := { n := nvdizc.getLsbD 5, v := nvdizc.getLsbD 4, d := nvdizc.getLsbD 3, i := nvdizc.getLsbD 2,
           z := nvdizc.getLsbD 1, c := nvdizc.getLsbD 0 } }

/-- A state at a boundary: the reset state with these registers, this PC and this memory. -/
def start (r : Regs) (pc : Word) (mem : Memory) : State := ((State.reset.withR r).withPc pc).withMem mem

/-- What one step leaves: the registers, PC, `run`, the number of cycles, and the bytes at the given addresses. -/
def outcome (s : State) (addrs : List Word) : Option (Regs × Word × RunMode × Nat × List Byte) :=
  match step s with
  | .next t => some (t.r, t.pc, t.run, t.cyc, addrs.map t.memRead)
  | .fault _ => none
  | .refused _ => none

/-! ## One step: vectors of 96_test_vectors_derived.md, named by mnemonic, mode and the vector's id -/

theorem test_lda_zpx_ls4 :
    outcome (start (regs 0x00#8 0x02#8 0x00#8 0xFF#8 0b000100#6) 0x0200#16
      [(0x0001, 0x44#8), (0x0101, 0x99#8), (0x0200, 0xB5#8), (0x0201, 0xFF#8)]) [] =
    some ((regs 0x44#8 0x02#8 0x00#8 0xFF#8 0b000100#6), 0x0202#16, .running, 4, []) := by decide

theorem test_lda_abx_ls6 :
    outcome (start (regs 0x00#8 0x20#8 0x00#8 0xFF#8 0b000100#6) 0x0200#16
      [(0x0200, 0xBD#8), (0x0201, 0xF0#8), (0x0202, 0x12#8), (0x1310, 0x7F#8)]) [] =
    some ((regs 0x7F#8 0x20#8 0x00#8 0xFF#8 0b000100#6), 0x0203#16, .running, 5, []) := by decide

theorem test_lda_aby_ls8 :
    outcome (start (regs 0x00#8 0x00#8 0x02#8 0xFF#8 0b000100#6) 0x0200#16
      [(0x0001, 0x66#8), (0x0200, 0xB9#8), (0x0201, 0xFF#8), (0x0202, 0xFF#8)]) [] =
    some ((regs 0x66#8 0x00#8 0x02#8 0xFF#8 0b000100#6), 0x0203#16, .running, 5, []) := by decide

theorem test_lda_izx_ls9 :
    outcome (start (regs 0x00#8 0x01#8 0x00#8 0xFF#8 0b000100#6) 0x0200#16
      [(0x0000, 0x30#8), (0x0200, 0xA1#8), (0x0201, 0xFE#8), (0x3000, 0xAA#8)]) [] =
    some ((regs 0xAA#8 0x01#8 0x00#8 0xFF#8 0b100100#6), 0x0202#16, .running, 6, []) := by decide

theorem test_lda_izy_ls10 :
    outcome (start (regs 0x00#8 0x00#8 0x01#8 0xFF#8 0b000100#6) 0x0200#16
      [(0x0010, 0xFF#8), (0x0011, 0x20#8), (0x0200, 0xB1#8), (0x0201, 0x10#8), (0x2100, 0x5A#8)]) [] =
    some ((regs 0x5A#8 0x00#8 0x01#8 0xFF#8 0b000100#6), 0x0202#16, .running, 6, []) := by decide

theorem test_lda_izp_ls12 :
    outcome (start (regs 0x01#8 0x00#8 0x00#8 0xFF#8 0b000100#6) 0x0200#16
      [(0x0000, 0x12#8), (0x00FF, 0x34#8), (0x0200, 0xB2#8), (0x0201, 0xFF#8)]) [] =
    some ((regs 0x00#8 0x00#8 0x00#8 0xFF#8 0b000110#6), 0x0202#16, .running, 5, []) := by decide

theorem test_ldx_zpy_ls14 :
    outcome (start (regs 0x00#8 0x00#8 0x90#8 0xFF#8 0b000100#6) 0x0200#16
      [(0x0010, 0x81#8), (0x0200, 0xB6#8), (0x0201, 0x80#8)]) [] =
    some ((regs 0x00#8 0x81#8 0x90#8 0xFF#8 0b100100#6), 0x0202#16, .running, 4, []) := by decide

theorem test_ldy_abx_ls17 :
    outcome (start (regs 0x00#8 0x02#8 0x00#8 0xFF#8 0b000100#6) 0x0200#16
      [(0x0001, 0x01#8), (0x0200, 0xBC#8), (0x0201, 0xFF#8), (0x0202, 0xFF#8)]) [] =
    some ((regs 0x00#8 0x02#8 0x01#8 0xFF#8 0b000100#6), 0x0203#16, .running, 5, []) := by decide

theorem test_sta_abx_ls20 :
    outcome (start (regs 0x11#8 0x05#8 0x00#8 0xFF#8 0b000100#6) 0x0200#16
      [(0x0200, 0x9D#8), (0x0201, 0xFF#8), (0x0202, 0x40#8)]) [0x4104#16] =
    some ((regs 0x11#8 0x05#8 0x00#8 0xFF#8 0b000100#6), 0x0203#16, .running, 5, [0x11#8]) := by decide

theorem test_sta_izy_ls23 :
    outcome (start (regs 0x44#8 0x00#8 0x10#8 0xFF#8 0b000100#6) 0x0200#16
      [(0x0020, 0xF8#8), (0x0021, 0x50#8), (0x0200, 0x91#8), (0x0201, 0x20#8)]) [0x5108#16] =
    some ((regs 0x44#8 0x00#8 0x10#8 0xFF#8 0b000100#6), 0x0202#16, .running, 6, [0x44#8]) := by decide

theorem test_stx_zpy_ls25 :
    outcome (start (regs 0x00#8 0xAA#8 0x20#8 0xFF#8 0b000100#6) 0x0200#16
      [(0x0200, 0x96#8), (0x0201, 0xF0#8)]) [0x0010#16] =
    some ((regs 0x00#8 0xAA#8 0x20#8 0xFF#8 0b000100#6), 0x0202#16, .running, 4, [0xAA#8]) := by decide

theorem test_sty_abs_ls26 :
    outcome (start (regs 0x00#8 0x00#8 0x09#8 0xFF#8 0b000100#6) 0x0200#16
      [(0x0200, 0x8C#8), (0x0201, 0x34#8), (0x0202, 0x12#8)]) [0x1234#16] =
    some ((regs 0x00#8 0x00#8 0x09#8 0xFF#8 0b000100#6), 0x0203#16, .running, 4, [0x09#8]) := by decide

theorem test_stz_zp_ls27 :
    outcome (start (regs 0x00#8 0x00#8 0x00#8 0xFF#8 0b000100#6) 0x0200#16
      [(0x0020, 0xEE#8), (0x0200, 0x64#8), (0x0201, 0x20#8)]) [0x0020#16] =
    some ((regs 0x00#8 0x00#8 0x00#8 0xFF#8 0b000100#6), 0x0202#16, .running, 3, [0x00#8]) := by decide

theorem test_tax_imp_ls29 :
    outcome (start (regs 0x80#8 0x00#8 0x00#8 0xFF#8 0b000100#6) 0x0200#16
      [(0x0200, 0xAA#8)]) [] =
    some ((regs 0x80#8 0x80#8 0x00#8 0xFF#8 0b100100#6), 0x0201#16, .running, 2, []) := by decide

theorem test_tay_imp_ls30 :
    outcome (start (regs 0x00#8 0x00#8 0x01#8 0xFF#8 0b000100#6) 0x0200#16
      [(0x0200, 0xA8#8)]) [] =
    some ((regs 0x00#8 0x00#8 0x00#8 0xFF#8 0b000110#6), 0x0201#16, .running, 2, []) := by decide

theorem test_txa_imp_ls31 :
    outcome (start (regs 0x00#8 0x7F#8 0x00#8 0xFF#8 0b000100#6) 0x0200#16
      [(0x0200, 0x8A#8)]) [] =
    some ((regs 0x7F#8 0x7F#8 0x00#8 0xFF#8 0b000100#6), 0x0201#16, .running, 2, []) := by decide

theorem test_tya_imp_ls32 :
    outcome (start (regs 0x00#8 0x00#8 0xFF#8 0xFF#8 0b000100#6) 0x0200#16
      [(0x0200, 0x98#8)]) [] =
    some ((regs 0xFF#8 0x00#8 0xFF#8 0xFF#8 0b100100#6), 0x0201#16, .running, 2, []) := by decide

theorem test_tsx_imp_ls33 :
    outcome (start (regs 0x00#8 0x01#8 0x00#8 0x00#8 0b000100#6) 0x0200#16
      [(0x0200, 0xBA#8)]) [] =
    some ((regs 0x00#8 0x00#8 0x00#8 0x00#8 0b000110#6), 0x0201#16, .running, 2, []) := by decide

theorem test_txs_imp_ls34 :
    outcome (start (regs 0x00#8 0x80#8 0x00#8 0xFF#8 0b000110#6) 0x0200#16
      [(0x0200, 0x9A#8)]) [] =
    some ((regs 0x00#8 0x80#8 0x00#8 0x80#8 0b000110#6), 0x0201#16, .running, 2, []) := by decide

theorem test_pha_imp_st2 :
    outcome (start (regs 0x3C#8 0x00#8 0x00#8 0x00#8 0b000100#6) 0x0200#16
      [(0x0200, 0x48#8)]) [0x0100#16] =
    some ((regs 0x3C#8 0x00#8 0x00#8 0xFF#8 0b000100#6), 0x0201#16, .running, 3, [0x3C#8]) := by decide

theorem test_phx_imp_st3 :
    outcome (start (regs 0x00#8 0x01#8 0x00#8 0x80#8 0b000100#6) 0x0200#16
      [(0x0200, 0xDA#8)]) [0x0180#16] =
    some ((regs 0x00#8 0x01#8 0x00#8 0x7F#8 0b000100#6), 0x0201#16, .running, 3, [0x01#8]) := by decide

theorem test_phy_imp_st4 :
    outcome (start (regs 0x00#8 0x00#8 0x02#8 0x80#8 0b000100#6) 0x0200#16
      [(0x0200, 0x5A#8)]) [0x0180#16] =
    some ((regs 0x00#8 0x00#8 0x02#8 0x7F#8 0b000100#6), 0x0201#16, .running, 3, [0x02#8]) := by decide

theorem test_php_imp_st5 :
    outcome (start (regs 0x00#8 0x00#8 0x00#8 0xFF#8 0b101101#6) 0x0200#16
      [(0x0200, 0x08#8)]) [0x01FF#16] =
    some ((regs 0x00#8 0x00#8 0x00#8 0xFE#8 0b101101#6), 0x0201#16, .running, 3, [0xBD#8]) := by decide

theorem test_pla_imp_st8 :
    outcome (start (regs 0x00#8 0x00#8 0x00#8 0xFF#8 0b000100#6) 0x0200#16
      [(0x0100, 0x80#8), (0x0200, 0x68#8)]) [] =
    some ((regs 0x80#8 0x00#8 0x00#8 0x00#8 0b100100#6), 0x0201#16, .running, 4, []) := by decide

theorem test_plx_imp_st9 :
    outcome (start (regs 0x00#8 0x00#8 0x00#8 0x10#8 0b000100#6) 0x0200#16
      [(0x0111, 0x7F#8), (0x0200, 0xFA#8)]) [] =
    some ((regs 0x00#8 0x7F#8 0x00#8 0x11#8 0b000100#6), 0x0201#16, .running, 4, []) := by decide

theorem test_ply_imp_st10 :
    outcome (start (regs 0x00#8 0x00#8 0x00#8 0x10#8 0b000100#6) 0x0200#16
      [(0x0111, 0xFF#8), (0x0200, 0x7A#8)]) [] =
    some ((regs 0x00#8 0x00#8 0xFF#8 0x11#8 0b100100#6), 0x0201#16, .running, 4, []) := by decide

theorem test_plp_imp_st11 :
    outcome (start (regs 0x00#8 0x00#8 0x00#8 0xFE#8 0b000000#6) 0x0200#16
      [(0x01FF, 0xFF#8), (0x0200, 0x28#8)]) [] =
    some ((regs 0x00#8 0x00#8 0x00#8 0xFF#8 0b111111#6), 0x0201#16, .running, 4, []) := by decide

theorem test_adc_imm_al4 :
    outcome (start (regs 0x80#8 0x00#8 0x00#8 0xFF#8 0b000100#6) 0x0200#16
      [(0x0200, 0x69#8), (0x0201, 0x80#8)]) [] =
    some ((regs 0x00#8 0x00#8 0x00#8 0xFF#8 0b010111#6), 0x0202#16, .running, 2, []) := by decide

theorem test_sbc_imm_al7 :
    outcome (start (regs 0x80#8 0x00#8 0x00#8 0xFF#8 0b000101#6) 0x0200#16
      [(0x0200, 0xE9#8), (0x0201, 0x01#8)]) [] =
    some ((regs 0x7F#8 0x00#8 0x00#8 0xFF#8 0b010101#6), 0x0202#16, .running, 2, []) := by decide

theorem test_adc_imm_al12 :
    outcome (start (regs 0x58#8 0x00#8 0x00#8 0xFF#8 0b001100#6) 0x0200#16
      [(0x0200, 0x69#8), (0x0201, 0x46#8)]) [] =
    some ((regs 0x04#8 0x00#8 0x00#8 0xFF#8 0b011101#6), 0x0202#16, .running, 3, []) := by decide

theorem test_sbc_imm_al19 :
    outcome (start (regs 0x12#8 0x00#8 0x00#8 0xFF#8 0b001101#6) 0x0200#16
      [(0x0200, 0xE9#8), (0x0201, 0x21#8)]) [] =
    some ((regs 0x91#8 0x00#8 0x00#8 0xFF#8 0b101100#6), 0x0202#16, .running, 3, []) := by decide

theorem test_adc_abx_al22 :
    outcome (start (regs 0x01#8 0x01#8 0x00#8 0xFF#8 0b001100#6) 0x0200#16
      [(0x0200, 0x7D#8), (0x0201, 0xFF#8), (0x0202, 0x20#8), (0x2100, 0x09#8)]) [] =
    some ((regs 0x10#8 0x01#8 0x00#8 0xFF#8 0b001100#6), 0x0203#16, .running, 6, []) := by decide

theorem test_and_imm_al23 :
    outcome (start (regs 0xF0#8 0x00#8 0x00#8 0xFF#8 0b000100#6) 0x0200#16
      [(0x0200, 0x29#8), (0x0201, 0x0F#8)]) [] =
    some ((regs 0x00#8 0x00#8 0x00#8 0xFF#8 0b000110#6), 0x0202#16, .running, 2, []) := by decide

theorem test_ora_imm_al26 :
    outcome (start (regs 0x01#8 0x00#8 0x00#8 0xFF#8 0b000100#6) 0x0200#16
      [(0x0200, 0x09#8), (0x0201, 0x80#8)]) [] =
    some ((regs 0x81#8 0x00#8 0x00#8 0xFF#8 0b100100#6), 0x0202#16, .running, 2, []) := by decide

theorem test_eor_imm_al28 :
    outcome (start (regs 0x7F#8 0x00#8 0x00#8 0xFF#8 0b000100#6) 0x0200#16
      [(0x0200, 0x49#8), (0x0201, 0xFF#8)]) [] =
    some ((regs 0x80#8 0x00#8 0x00#8 0xFF#8 0b100100#6), 0x0202#16, .running, 2, []) := by decide

theorem test_cmp_imm_al30 :
    outcome (start (regs 0x10#8 0x00#8 0x00#8 0xFF#8 0b000100#6) 0x0200#16
      [(0x0200, 0xC9#8), (0x0201, 0x11#8)]) [] =
    some ((regs 0x10#8 0x00#8 0x00#8 0xFF#8 0b100100#6), 0x0202#16, .running, 2, []) := by decide

theorem test_cpx_imm_al33 :
    outcome (start (regs 0x00#8 0x06#8 0x00#8 0xFF#8 0b000100#6) 0x0200#16
      [(0x0200, 0xE0#8), (0x0201, 0x05#8)]) [] =
    some ((regs 0x00#8 0x06#8 0x00#8 0xFF#8 0b000101#6), 0x0202#16, .running, 2, []) := by decide

theorem test_cpy_imm_al34 :
    outcome (start (regs 0x00#8 0x00#8 0x04#8 0xFF#8 0b000100#6) 0x0200#16
      [(0x0200, 0xC0#8), (0x0201, 0x05#8)]) [] =
    some ((regs 0x00#8 0x00#8 0x04#8 0xFF#8 0b100100#6), 0x0202#16, .running, 2, []) := by decide

theorem test_bit_zp_al36 :
    outcome (start (regs 0x01#8 0x00#8 0x00#8 0xFF#8 0b000100#6) 0x0200#16
      [(0x0010, 0xC0#8), (0x0200, 0x24#8), (0x0201, 0x10#8)]) [] =
    some ((regs 0x01#8 0x00#8 0x00#8 0xFF#8 0b110110#6), 0x0202#16, .running, 3, []) := by decide

theorem test_bit_imm_al39 :
    outcome (start (regs 0x01#8 0x00#8 0x00#8 0xFF#8 0b110110#6) 0x0200#16
      [(0x0200, 0x89#8), (0x0201, 0x01#8)]) [] =
    some ((regs 0x01#8 0x00#8 0x00#8 0xFF#8 0b110100#6), 0x0202#16, .running, 2, []) := by decide

theorem test_asl_acc_rm1 :
    outcome (start (regs 0x80#8 0x00#8 0x00#8 0xFF#8 0b000100#6) 0x0200#16
      [(0x0200, 0x0A#8)]) [] =
    some ((regs 0x00#8 0x00#8 0x00#8 0xFF#8 0b000111#6), 0x0201#16, .running, 2, []) := by decide

theorem test_lsr_acc_rm3 :
    outcome (start (regs 0x01#8 0x00#8 0x00#8 0xFF#8 0b100100#6) 0x0200#16
      [(0x0200, 0x4A#8)]) [] =
    some ((regs 0x00#8 0x00#8 0x00#8 0xFF#8 0b000111#6), 0x0201#16, .running, 2, []) := by decide

theorem test_rol_abx_rm9 :
    outcome (start (regs 0x00#8 0x01#8 0x00#8 0xFF#8 0b000100#6) 0x0200#16
      [(0x0200, 0x3E#8), (0x0202, 0x30#8), (0x3001, 0x80#8)]) [0x3001#16] =
    some ((regs 0x00#8 0x01#8 0x00#8 0xFF#8 0b000111#6), 0x0203#16, .running, 6, [0x00#8]) := by decide

theorem test_ror_abx_rm10 :
    outcome (start (regs 0x00#8 0x01#8 0x00#8 0xFF#8 0b000101#6) 0x0200#16
      [(0x0200, 0x7E#8), (0x0201, 0xFF#8), (0x0202, 0x30#8)]) [0x3100#16] =
    some ((regs 0x00#8 0x01#8 0x00#8 0xFF#8 0b100100#6), 0x0203#16, .running, 7, [0x80#8]) := by decide

theorem test_inc_abs_rm14 :
    outcome (start (regs 0x00#8 0x00#8 0x00#8 0xFF#8 0b000100#6) 0x0200#16
      [(0x0200, 0xEE#8), (0x0202, 0x30#8), (0x3000, 0x7F#8)]) [0x3000#16] =
    some ((regs 0x00#8 0x00#8 0x00#8 0xFF#8 0b100100#6), 0x0203#16, .running, 6, [0x80#8]) := by decide

theorem test_dec_abx_rm15 :
    outcome (start (regs 0x00#8 0x01#8 0x00#8 0xFF#8 0b000100#6) 0x0200#16
      [(0x0200, 0xDE#8), (0x0201, 0xFF#8), (0x0202, 0x30#8), (0x3100, 0x01#8)]) [0x3100#16] =
    some ((regs 0x00#8 0x01#8 0x00#8 0xFF#8 0b000110#6), 0x0203#16, .running, 7, [0x00#8]) := by decide

theorem test_inx_imp_rm18 :
    outcome (start (regs 0x00#8 0x7F#8 0x00#8 0xFF#8 0b000100#6) 0x0200#16
      [(0x0200, 0xE8#8)]) [] =
    some ((regs 0x00#8 0x80#8 0x00#8 0xFF#8 0b100100#6), 0x0201#16, .running, 2, []) := by decide

theorem test_iny_imp_rm19 :
    outcome (start (regs 0x00#8 0x00#8 0xFF#8 0xFF#8 0b000100#6) 0x0200#16
      [(0x0200, 0xC8#8)]) [] =
    some ((regs 0x00#8 0x00#8 0x00#8 0xFF#8 0b000110#6), 0x0201#16, .running, 2, []) := by decide

theorem test_dex_imp_rm20 :
    outcome (start (regs 0x00#8 0x00#8 0x00#8 0xFF#8 0b000100#6) 0x0200#16
      [(0x0200, 0xCA#8)]) [] =
    some ((regs 0x00#8 0xFF#8 0x00#8 0xFF#8 0b100100#6), 0x0201#16, .running, 2, []) := by decide

theorem test_dey_imp_rm21 :
    outcome (start (regs 0x00#8 0x00#8 0x01#8 0xFF#8 0b000100#6) 0x0200#16
      [(0x0200, 0x88#8)]) [] =
    some ((regs 0x00#8 0x00#8 0x00#8 0xFF#8 0b000110#6), 0x0201#16, .running, 2, []) := by decide

theorem test_tsb_zp_rm22 :
    outcome (start (regs 0x0F#8 0x00#8 0x00#8 0xFF#8 0b100100#6) 0x0200#16
      [(0x0010, 0xF0#8), (0x0200, 0x04#8), (0x0201, 0x10#8)]) [0x0010#16] =
    some ((regs 0x0F#8 0x00#8 0x00#8 0xFF#8 0b100110#6), 0x0202#16, .running, 5, [0xFF#8]) := by decide

theorem test_trb_zp_rm24 :
    outcome (start (regs 0x0F#8 0x00#8 0x00#8 0xFF#8 0b000100#6) 0x0200#16
      [(0x0010, 0xFF#8), (0x0200, 0x14#8), (0x0201, 0x10#8)]) [0x0010#16] =
    some ((regs 0x0F#8 0x00#8 0x00#8 0xFF#8 0b000100#6), 0x0202#16, .running, 5, [0xF0#8]) := by decide

theorem test_rmb7_zp_rm27 :
    outcome (start (regs 0x00#8 0x00#8 0x00#8 0xFF#8 0b000100#6) 0x0200#16
      [(0x0010, 0xFF#8), (0x0200, 0x77#8), (0x0201, 0x10#8)]) [0x0010#16] =
    some ((regs 0x00#8 0x00#8 0x00#8 0xFF#8 0b000100#6), 0x0202#16, .running, 5, [0x7F#8]) := by decide

theorem test_smb3_zp_rm30 :
    outcome (start (regs 0x00#8 0x00#8 0x00#8 0xFF#8 0b000100#6) 0x0200#16
      [(0x0010, 0x08#8), (0x0200, 0xB7#8), (0x0201, 0x10#8)]) [0x0010#16] =
    some ((regs 0x00#8 0x00#8 0x00#8 0xFF#8 0b000100#6), 0x0202#16, .running, 5, [0x08#8]) := by decide

theorem test_bcc_rel_bj1 :
    outcome (start (regs 0x00#8 0x00#8 0x00#8 0xFF#8 0b000101#6) 0x0200#16
      [(0x0200, 0x90#8), (0x0201, 0x10#8)]) [] =
    some ((regs 0x00#8 0x00#8 0x00#8 0xFF#8 0b000101#6), 0x0202#16, .running, 2, []) := by decide

theorem test_bcs_rel_bj3 :
    outcome (start (regs 0x00#8 0x00#8 0x00#8 0xFF#8 0b000101#6) 0x0200#16
      [(0x0200, 0xB0#8), (0x0201, 0xFB#8)]) [] =
    some ((regs 0x00#8 0x00#8 0x00#8 0xFF#8 0b000101#6), 0x01FD#16, .running, 4, []) := by decide

theorem test_beq_rel_bj4 :
    outcome (start (regs 0x00#8 0x00#8 0x00#8 0xFF#8 0b000110#6) 0x0200#16
      [(0x0200, 0xF0#8), (0x0201, 0x7F#8)]) [] =
    some ((regs 0x00#8 0x00#8 0x00#8 0xFF#8 0b000110#6), 0x0281#16, .running, 3, []) := by decide

theorem test_bne_rel_bj5 :
    outcome (start (regs 0x00#8 0x00#8 0x00#8 0xFF#8 0b000100#6) 0x0200#16
      [(0x0200, 0xD0#8), (0x0201, 0x80#8)]) [] =
    some ((regs 0x00#8 0x00#8 0x00#8 0xFF#8 0b000100#6), 0x0182#16, .running, 4, []) := by decide

theorem test_bmi_rel_bj6 :
    outcome (start (regs 0x00#8 0x00#8 0x00#8 0xFF#8 0b100100#6) 0x0200#16
      [(0x0200, 0x30#8), (0x0201, 0xFE#8)]) [] =
    some ((regs 0x00#8 0x00#8 0x00#8 0xFF#8 0b100100#6), 0x0200#16, .running, 3, []) := by decide

theorem test_bpl_rel_bj7 :
    outcome (start (regs 0x00#8 0x00#8 0x00#8 0xFF#8 0b000100#6) 0x0200#16
      [(0x0200, 0x10#8)]) [] =
    some ((regs 0x00#8 0x00#8 0x00#8 0xFF#8 0b000100#6), 0x0202#16, .running, 3, []) := by decide

theorem test_bvc_rel_bj8 :
    outcome (start (regs 0x00#8 0x00#8 0x00#8 0xFF#8 0b010100#6) 0x0200#16
      [(0x0200, 0x50#8), (0x0201, 0x05#8)]) [] =
    some ((regs 0x00#8 0x00#8 0x00#8 0xFF#8 0b010100#6), 0x0202#16, .running, 2, []) := by decide

theorem test_bvs_rel_bj9 :
    outcome (start (regs 0x00#8 0x00#8 0x00#8 0xFF#8 0b010100#6) 0x0200#16
      [(0x0200, 0x70#8), (0x0201, 0x05#8)]) [] =
    some ((regs 0x00#8 0x00#8 0x00#8 0xFF#8 0b010100#6), 0x0207#16, .running, 3, []) := by decide

theorem test_bra_rel_bj10 :
    outcome (start (regs 0x00#8 0x00#8 0x00#8 0xFF#8 0b000100#6) 0x0200#16
      [(0x0200, 0x80#8), (0x0201, 0xFD#8)]) [] =
    some ((regs 0x00#8 0x00#8 0x00#8 0xFF#8 0b000100#6), 0x01FF#16, .running, 4, []) := by decide

theorem test_bne_rel_bj11 :
    outcome (start (regs 0x00#8 0x00#8 0x00#8 0xFF#8 0b000100#6) 0xFFFC#16
      [(0xFFFC, 0xD0#8), (0xFFFD, 0x02#8)]) [] =
    some ((regs 0x00#8 0x00#8 0x00#8 0xFF#8 0b000100#6), 0x0000#16, .running, 4, []) := by decide

theorem test_bbr0_zprel_bj13 :
    outcome (start (regs 0x00#8 0x00#8 0x00#8 0xFF#8 0b000100#6) 0x0200#16
      [(0x0010, 0xFE#8), (0x0200, 0x0F#8), (0x0201, 0x10#8), (0x0202, 0x05#8)]) [] =
    some ((regs 0x00#8 0x00#8 0x00#8 0xFF#8 0b000100#6), 0x0208#16, .running, 6, []) := by decide

theorem test_bbs7_zprel_bj15 :
    outcome (start (regs 0x00#8 0x00#8 0x00#8 0xFF#8 0b000100#6) 0x0200#16
      [(0x0010, 0x80#8), (0x0200, 0xFF#8), (0x0201, 0x10#8), (0x0202, 0x80#8)]) [] =
    some ((regs 0x00#8 0x00#8 0x00#8 0xFF#8 0b000100#6), 0x0183#16, .running, 7, []) := by decide

theorem test_jmp_abs_bj18 :
    outcome (start (regs 0x00#8 0x00#8 0x00#8 0xFF#8 0b000100#6) 0x0200#16
      [(0x0200, 0x4C#8), (0x0201, 0x34#8), (0x0202, 0x12#8)]) [] =
    some ((regs 0x00#8 0x00#8 0x00#8 0xFF#8 0b000100#6), 0x1234#16, .running, 3, []) := by decide

theorem test_jmp_ind_bj19 :
    outcome (start (regs 0x00#8 0x00#8 0x00#8 0xFF#8 0b000100#6) 0x0200#16
      [(0x0200, 0x6C#8), (0x0201, 0xFF#8), (0x0202, 0x12#8), (0x1200, 0x99#8), (0x12FF, 0x78#8), (0x1300, 0x56#8)]) [] =
    some ((regs 0x00#8 0x00#8 0x00#8 0xFF#8 0b000100#6), 0x5678#16, .running, 6, []) := by decide

theorem test_jmp_iax_bj20 :
    outcome (start (regs 0x00#8 0x01#8 0x00#8 0xFF#8 0b000100#6) 0x0200#16
      [(0x0200, 0x7C#8), (0x0201, 0xFE#8), (0x0202, 0x12#8), (0x12FF, 0x78#8), (0x1300, 0x56#8)]) [] =
    some ((regs 0x00#8 0x01#8 0x00#8 0xFF#8 0b000100#6), 0x5678#16, .running, 6, []) := by decide

theorem test_jsr_abs_bj23 :
    outcome (start (regs 0x00#8 0x00#8 0x00#8 0x00#8 0b000100#6) 0x0200#16
      [(0x0200, 0x20#8), (0x0202, 0x30#8)]) [0x0100#16, 0x01FF#16] =
    some ((regs 0x00#8 0x00#8 0x00#8 0xFE#8 0b000100#6), 0x3000#16, .running, 6, [0x02#8, 0x02#8]) := by decide

theorem test_rts_imp_bj25 :
    outcome (start (regs 0x00#8 0x00#8 0x00#8 0xFE#8 0b000100#6) 0x0200#16
      [(0x0100, 0xFF#8), (0x01FF, 0xFF#8), (0x0200, 0x60#8)]) [] =
    some ((regs 0x00#8 0x00#8 0x00#8 0x00#8 0b000100#6), 0x0000#16, .running, 6, []) := by decide

theorem test_clc_imp_fs1 :
    outcome (start (regs 0x00#8 0x00#8 0x00#8 0xFF#8 0b000101#6) 0x0200#16
      [(0x0200, 0x18#8)]) [] =
    some ((regs 0x00#8 0x00#8 0x00#8 0xFF#8 0b000100#6), 0x0201#16, .running, 2, []) := by decide

theorem test_sec_imp_fs2 :
    outcome (start (regs 0x00#8 0x00#8 0x00#8 0xFF#8 0b000100#6) 0x0200#16
      [(0x0200, 0x38#8)]) [] =
    some ((regs 0x00#8 0x00#8 0x00#8 0xFF#8 0b000101#6), 0x0201#16, .running, 2, []) := by decide

theorem test_cld_imp_fs3 :
    outcome (start (regs 0x00#8 0x00#8 0x00#8 0xFF#8 0b001100#6) 0x0200#16
      [(0x0200, 0xD8#8)]) [] =
    some ((regs 0x00#8 0x00#8 0x00#8 0xFF#8 0b000100#6), 0x0201#16, .running, 2, []) := by decide

theorem test_sed_imp_fs4 :
    outcome (start (regs 0x00#8 0x00#8 0x00#8 0xFF#8 0b000100#6) 0x0200#16
      [(0x0200, 0xF8#8)]) [] =
    some ((regs 0x00#8 0x00#8 0x00#8 0xFF#8 0b001100#6), 0x0201#16, .running, 2, []) := by decide

theorem test_cli_imp_fs5 :
    outcome (start (regs 0x00#8 0x00#8 0x00#8 0xFF#8 0b000100#6) 0x0200#16
      [(0x0200, 0x58#8)]) [] =
    some ((regs 0x00#8 0x00#8 0x00#8 0xFF#8 0b000000#6), 0x0201#16, .running, 2, []) := by decide

theorem test_sei_imp_fs6 :
    outcome (start (regs 0x00#8 0x00#8 0x00#8 0xFF#8 0b000000#6) 0x0200#16
      [(0x0200, 0x78#8)]) [] =
    some ((regs 0x00#8 0x00#8 0x00#8 0xFF#8 0b000100#6), 0x0201#16, .running, 2, []) := by decide

theorem test_clv_imp_fs7 :
    outcome (start (regs 0x00#8 0x00#8 0x00#8 0xFF#8 0b010100#6) 0x0200#16
      [(0x0200, 0xB8#8)]) [] =
    some ((regs 0x00#8 0x00#8 0x00#8 0xFF#8 0b000100#6), 0x0201#16, .running, 2, []) := by decide

theorem test_nop_imp_fs8 :
    outcome (start (regs 0x00#8 0x00#8 0x00#8 0xFF#8 0b110111#6) 0x0200#16
      [(0x0200, 0xEA#8)]) [] =
    some ((regs 0x00#8 0x00#8 0x00#8 0xFF#8 0b110111#6), 0x0201#16, .running, 2, []) := by decide

theorem test_brk_imp_fs9 :
    outcome (start (regs 0x00#8 0x00#8 0x00#8 0xFF#8 0b101001#6) 0x0200#16
      [(0x0201, 0xEA#8), (0xFFFF, 0x80#8)]) [0x01FF#16, 0x01FE#16, 0x01FD#16] =
    some ((regs 0x00#8 0x00#8 0x00#8 0xFC#8 0b100101#6), 0x8000#16, .running, 7, [0x02#8, 0x02#8, 0xB9#8]) := by decide

theorem test_brk_imp_fs10 :
    outcome (start (regs 0x00#8 0x00#8 0x00#8 0x01#8 0b000100#6) 0xFFFF#16
      [(0xFFFE, 0x34#8)]) [0x0101#16, 0x0100#16, 0x01FF#16] =
    some ((regs 0x00#8 0x00#8 0x00#8 0xFE#8 0b000100#6), 0x0034#16, .running, 7, [0x00#8, 0x01#8, 0x34#8]) := by decide

theorem test_rti_imp_fs11 :
    outcome (start (regs 0x00#8 0x00#8 0x00#8 0xFC#8 0b000100#6) 0x0200#16
      [(0x01FD, 0xC3#8), (0x01FE, 0x34#8), (0x01FF, 0x12#8), (0x0200, 0x40#8)]) [] =
    some ((regs 0x00#8 0x00#8 0x00#8 0xFF#8 0b110011#6), 0x1234#16, .running, 6, []) := by decide

theorem test_wai_imp_fs13 :
    outcome (start (regs 0x00#8 0x00#8 0x00#8 0xFF#8 0b000100#6) 0x0200#16
      [(0x0200, 0xCB#8)]) [] =
    some ((regs 0x00#8 0x00#8 0x00#8 0xFF#8 0b000100#6), 0x0201#16, .waiting, 3, []) := by decide

theorem test_stp_imp_fs14 :
    outcome (start (regs 0x00#8 0x00#8 0x00#8 0xFF#8 0b000100#6) 0x0200#16
      [(0x0200, 0xDB#8)]) [] =
    some ((regs 0x00#8 0x00#8 0x00#8 0xFF#8 0b000100#6), 0x0201#16, .stopped, 3, []) := by decide

theorem test_unassigned_de1 :
    outcome (start (regs 0x11#8 0x00#8 0x00#8 0xFF#8 0b000100#6) 0x0200#16
      [(0x0200, 0x02#8), (0x0201, 0xEA#8), (0x0202, 0xEA#8)]) [] =
    some ((regs 0x11#8 0x00#8 0x00#8 0xFF#8 0b000100#6), 0x0201#16, (.faulted 0x02#8 0x0200#16), 1, []) := by decide

/-! ## Events and modes: 95_test_vectors.md S3 (NMI), R347 (IRQ), R360 (waiting), R361 (stopped) -/

/-- The state of S3 at tick 2: after `LDA #$AB` at $0200 with C = 1 and I = 0. -/
def beforeNmi : State :=
  (start (regs 0xAB#8 0x00#8 0x00#8 0xFF#8 0b100001#6) 0x0202#16 [(0x0202, 0xEA#8), (0xFFFB, 0x90#8)]).withInputs
    [{ nmiEdge := true, irq := false }]

theorem test_nmi_s3 : outcome beforeNmi [0x01FF#16, 0x01FE#16, 0x01FD#16] =
    some (regs 0xAB#8 0x00#8 0x00#8 0xFC#8 0b100101#6, 0x9000#16, .running, 7, [0x02#8, 0x02#8, 0xA1#8]) := by decide

/-- The IRQ line asserted at a boundary, I = 0, vector $8000. -/
def beforeIrq : State :=
  (start (regs 0x00#8 0x00#8 0x00#8 0xFF#8 0b001000#6) 0x0200#16 [(0x0200, 0xEA#8), (0xFFFF, 0x80#8)]).withInputs
    [{ nmiEdge := false, irq := true }]

theorem test_irq_is_taken : outcome beforeIrq [0x01FF#16, 0x01FE#16, 0x01FD#16] =
    some (regs 0x00#8 0x00#8 0x00#8 0xFC#8 0b000100#6, 0x8000#16, .running, 7, [0x02#8, 0x00#8, 0x28#8]) := by decide

/-- Waiting at $0201 with I = 1 before a NOP. -/
def waitingMasked : State :=
  (start (regs 0x00#8 0x00#8 0x00#8 0xFF#8 0b000100#6) 0x0201#16 [(0x0201, 0xEA#8)]).withRun .waiting

theorem test_waiting_idles : outcome waitingMasked [] =
    some (waitingMasked.r, 0x0201#16, .waiting, 1, []) := by decide

theorem test_waiting_resumes_without_vector :
    outcome (waitingMasked.withInputs [{ nmiEdge := false, irq := true }]) [] =
    some (waitingMasked.r, 0x0202#16, .running, 2, []) := by decide

theorem test_stopped_ignores_nmi :
    outcome ((waitingMasked.withRun .stopped).withInputs [{ nmiEdge := true, irq := true }]) [] =
    some (waitingMasked.r, 0x0201#16, .stopped, 1, []) := by decide

theorem test_reset_reads_the_vector :
    (State.resetWith Config.default [(0xFFFC, 0x34#8), (0xFFFD, 0x12#8)] initDefault).pc = 0x1234#16 := by decide

/-! ## Decoding: words written out bit by bit from 30_encoding.md R86 and R88, a few for every family -/

theorem test_decode_loads_and_stores :
    decode Caps.all [0b10101001#8, 0x01#8] = .ok (.ldaImm 0x01#8) [] ∧
    decode Caps.all [0b10110010#8, 0x80#8] = .ok (.ldaIzp 0x80#8) [] ∧
    decode Caps.all [0b10111110#8, 0xFE#8, 0x7F#8] = .ok (.ldxAby 0xFE#8 0x7F#8) [] ∧
    decode Caps.all [0b10110100#8, 0x40#8] = .ok (.ldyZpx 0x40#8) [] ∧
    decode Caps.all [0b10010001#8, 0x20#8] = .ok (.staIzy 0x20#8) [] ∧
    decode Caps.all [0b10010110#8, 0x20#8] = .ok (.stxZpy 0x20#8) [] ∧
    decode Caps.all [0b10001100#8, 0x34#8, 0x12#8] = .ok (.styAbs 0x34#8 0x12#8) [] ∧
    decode Caps.all [0b10011110#8, 0x01#8, 0x80#8] = .ok (.stzAbx 0x01#8 0x80#8) [] ∧
    decode Caps.all [0b10111010#8, 0xEA#8] = .ok .tsx [0xEA#8] := by decide

theorem test_decode_stack :
    decode Caps.all [0b01001000#8] = .ok .pha [] ∧ decode Caps.all [0b11011010#8] = .ok .phx [] ∧
    decode Caps.all [0b00001000#8] = .ok .php [] ∧ decode Caps.all [0b01111010#8] = .ok .ply [] := by decide

theorem test_decode_alu :
    decode Caps.all [0b01110001#8, 0x10#8] = .ok (.adcIzy 0x10#8) [] ∧
    decode Caps.all [0b11110010#8, 0x10#8] = .ok (.sbcIzp 0x10#8) [] ∧
    decode Caps.all [0b00111001#8, 0x34#8, 0x12#8] = .ok (.andAby 0x34#8 0x12#8) [] ∧
    decode Caps.all [0b00000001#8, 0x10#8] = .ok (.oraIzx 0x10#8) [] ∧
    decode Caps.all [0b01010101#8, 0x10#8] = .ok (.eorZpx 0x10#8) [] ∧
    decode Caps.all [0b11011101#8, 0x34#8, 0x12#8] = .ok (.cmpAbx 0x34#8 0x12#8) [] ∧
    decode Caps.all [0b11101100#8, 0x34#8, 0x12#8] = .ok (.cpxAbs 0x34#8 0x12#8) [] ∧
    decode Caps.all [0b10001001#8, 0x34#8] = .ok (.bitImm 0x34#8) [] := by decide

theorem test_decode_rmw :
    decode Caps.all [0b00001010#8] = .ok .aslAcc [] ∧
    decode Caps.all [0b01011110#8, 0x34#8, 0x12#8] = .ok (.lsrAbx 0x34#8 0x12#8) [] ∧
    decode Caps.all [0b00100110#8, 0x34#8] = .ok (.rolZp 0x34#8) [] ∧
    decode Caps.all [0b01110110#8, 0x34#8] = .ok (.rorZpx 0x34#8) [] ∧
    decode Caps.all [0b00011010#8] = .ok .incAcc [] ∧
    decode Caps.all [0b11001110#8, 0x34#8, 0x12#8] = .ok (.decAbs 0x34#8 0x12#8) [] ∧
    decode Caps.all [0b00010100#8, 0x34#8] = .ok (.trbZp 0x34#8) [] ∧
    decode Caps.all [0b01000111#8, 0x34#8] = .ok (.rmb4 0x34#8) [] ∧
    decode Caps.all [0b11100111#8, 0x34#8] = .ok (.smb6 0x34#8) [] := by decide

theorem test_decode_control :
    decode Caps.all [0b01010000#8, 0xFE#8] = .ok (.bvc 0xFE#8) [] ∧
    decode Caps.all [0b10000000#8, 0xFE#8] = .ok (.bra 0xFE#8) [] ∧
    decode Caps.all [0b00101111#8, 0x10#8, 0xFE#8] = .ok (.bbr2 0x10#8 0xFE#8) [] ∧
    decode Caps.all [0b10111111#8, 0x10#8, 0xFE#8] = .ok (.bbs3 0x10#8 0xFE#8) [] ∧
    decode Caps.all [0b01101100#8, 0xFF#8, 0x12#8] = .ok (.jmpInd 0xFF#8 0x12#8) [] ∧
    decode Caps.all [0b00100000#8, 0x00#8, 0x30#8] = .ok (.jsr 0x00#8 0x30#8) [] ∧
    decode Caps.all [0b01000000#8] = .ok .rti [] ∧ decode Caps.all [0b11011000#8] = .ok .cld [] ∧
    decode Caps.all [0b11011011#8] = .ok .stp [] := by decide

theorem test_decode_rejects_by_name :
    decode Caps.all [0x02#8, 0xEA#8] = .rejected (.unassigned 0x02#8) ∧
    decode Caps.all [0xFC#8] = .rejected (.unassigned 0xFC#8) ∧
    decode Caps.all [0xAD#8, 0x34#8] = .rejected .truncated ∧ decode Caps.all [] = .rejected .truncated := by decide

theorem test_decodeTableWord_numbers_bytes_upwards :
    decodeTableWord 24 0x1234AD = some (.ldaAbs 0x34#8 0x12#8) ∧ decodeTableWord 8 0xA9 = some (.ldaImm 0x00#8) ∧
    decodeTableWord 8 0x5C = none := by decide

/-! ## Ill-formed terms, one for each check of WellFormed.lean -/

/-- CAPS without the two optional groups. -/
def capsBase : Caps := { bitops := false, waistp := false }

theorem test_bitops_instruction_needs_bitops :
    Instr.wellFormed capsBase (.rmb0 0x10#8) = false ∧ Instr.wellFormed capsBase (.bbs7 0x10#8 0x00#8) = false ∧
    Instr.wellFormed { bitops := true, waistp := false } (.rmb0 0x10#8) = true := by decide

theorem test_waistp_instruction_needs_waistp :
    Instr.wellFormed capsBase .wai = false ∧ Instr.wellFormed capsBase .stp = false ∧
    Instr.wellFormed { bitops := false, waistp := true } .wai = true := by decide

theorem test_base_instruction_is_wellFormed : Instr.wellFormed capsBase .brk = true := by decide

theorem test_region_outside_is_refused :
    Region.inside { base := 0xFFFF, size := 2, kind := .ram } = false ∧
    Region.inside { base := 0xFFFF, size := 1, kind := .ram } = true := by decide

theorem test_overlapping_regions_are_refused :
    regionsApart [{ base := 0, size := 0x201, kind := .ram }, { base := 0x200, size := 0x100, kind := .rom }] = false ∧
    regionsApart [{ base := 0, size := 0x200, kind := .ram }, { base := 0x200, size := 0x100, kind := .rom }] = true := by
  decide

/-- A mirror that sends $0010 to $0020 and $0020 to $0030. -/
def mirrorTwice : MemCfg :=
  { MemCfg.default with
    mirror := [{ base := 0x10, size := 1, andMask := 0#16, orMask := 0x20#16 },
      { base := 0x20, size := 1, andMask := 0#16, orMask := 0x30#16 }] }

theorem test_mirror_must_be_idempotent : mirrorTwice.mirrorOkAt 0x0010#16 = false ∧ ¬mirrorTwice.WellFormed :=
  ⟨by decide, fun h => absurd (h.2 0x0010#16) (by decide)⟩

theorem test_default_memcfg_is_wellFormed : MemCfg.default.WellFormed :=
  ⟨by decide, fun a => by simp [MemCfg.mirrorOkAt, MemCfg.default, mirrorAddr, mirrorBy]⟩

/-! ## Witnesses: a state and operands that meet the hypotheses of an obligation, one for each clause -/

/-- RAM below $8000, ROM $8000 to $EFFF, unmapped above. -/
def romConfig : Config :=
  { Config.default with
    memcfg := { MemCfg.default with
      regions := [{ base := 0, size := 0x8000, kind := .ram }, { base := 0x8000, size := 0x7000, kind := .rom }]
      fill := 0xFF#8 } }

/-- The reset state under a configuration. -/
def startWith (cfg : Config) (pc : Word) (mem : Memory) : State := (State.resetWith cfg mem initDefault).withPc pc

/-- A NOP at PC and nothing else. -/
def atNop : State := start (regs 0x00#8 0x00#8 0x00#8 0xFF#8 0b000000#6) 0x0200#16 [(0x0200, 0xEA#8)]

theorem witness_DecodeInvertsEncode_both_sides :
    Instr.wellFormed Caps.all (.bbs7 0xFF#8 0xFF#8) = true ∧ Instr.wellFormed capsBase (.bbs7 0xFF#8 0xFF#8) = false := by
  decide

theorem witness_EncodeInvertsDecode : decode Caps.all [0xFF#8, 0x10#8, 0x80#8, 0xEA#8] = .ok (.bbs7 0x10#8 0x80#8) [0xEA#8] := by
  decide

theorem witness_PlaceholderOpcodesAreRejected :
    0xFC#8 ∈ unassignedOpcodes ∧ (bitopsOpcode 0xFF#8 = true ∧ capsBase.bitops = false) ∧
    (waistpOpcode 0xDB#8 = true ∧ capsBase.waistp = false) := by decide

/-- A cross at lo + i = $100 and none at $FF, at the zero-page pointer $FF too. -/
theorem witness_EffectiveAddressOfEveryMode_crosses :
    let s := (start (regs 0x00#8 0x01#8 0x01#8 0xFF#8 0b000000#6) 0x0200#16 [(0x00FF, 0xFF#8)])
    s.crosses .abx 0xFF#8 = true ∧ s.crosses .abx 0xFE#8 = false ∧ s.crosses .izy 0xFF#8 = true ∧
    s.crosses .izy 0xFE#8 = false := by decide

theorem witness_ReadsReturnTheMostRecentWrite_clauses :
    let s := startWith romConfig 0x0200#16 []
    regionKind s.cfg.memcfg 0x7FFF#16 = some .ram ∧ regionKind s.cfg.memcfg 0x8000#16 = some .rom ∧
    regionKind s.cfg.memcfg 0xF000#16 = none := by decide

theorem witness_CanonicalMemoriesAreEqual :
    ∃ m m' : Memory, m.wf = true ∧ m'.wf = true ∧ (∀ k < 0x10000, m.read k = m'.read k) ∧ m ≠ [] :=
  ⟨[(0, 0x01#8), (0xFFFF, 0xFF#8)], [(0, 0x01#8), (0xFFFF, 0xFF#8)], by decide, by decide, fun _ _ => rfl, by decide⟩

theorem witness_DecimalResultsAreDecimalArithmetic_largest :
    ∃ r : Regs, (99 : Nat) < 100 ∧ r.p.d = true ∧ r.a = BitVec.ofNat 8 (99 / 10 * 16 + 99 % 10) ∧ r.p.c = true :=
  ⟨regs 0x99#8 0x00#8 0x00#8 0xFF#8 0b001001#6, by decide⟩

theorem witness_DecimalResultsAreDecimalArithmetic_least :
    ∃ r : Regs, (0 : Nat) < 100 ∧ r.p.d = true ∧ r.a = BitVec.ofNat 8 (0 / 10 * 16 + 0 % 10) ∧ r.p.c = false :=
  ⟨regs 0x00#8 0x00#8 0x00#8 0xFF#8 0b001000#6, by decide⟩

theorem witness_DecimalResultsFollowTheFormulas :
    ∃ (m : Byte) (r : Regs), r.p.d = true ∧ r.a.toNat % 16 < 10 ∧ r.a.toNat / 16 < 10 ∧ m.toNat % 16 < 10 ∧
      m.toNat / 16 < 10 :=
  ⟨0x99#8, regs 0x90#8 0x00#8 0x00#8 0xFF#8 0b001000#6, by decide⟩

theorem witness_InvalidDecimalIsAFreeValue :
    ∃ (m : Byte) (r : Regs), r.p.d = true ∧ ¬(isBcd r.a = true ∧ isBcd m = true) :=
  ⟨0x0A#8, regs 0x99#8 0x00#8 0x00#8 0xFF#8 0b001000#6, by decide⟩

theorem witness_RmbSmbWriteOneBit_first : ([Instr.rmb0, .rmb1, .rmb2, .rmb3, .rmb4, .rmb5, .rmb6, .rmb7])[0]? = some Instr.rmb0 ∧
    ([Instr.smb0, .smb1, .smb2, .smb3, .smb4, .smb5, .smb6, .smb7])[0]? = some Instr.smb0 := ⟨rfl, rfl⟩

theorem witness_RmbSmbWriteOneBit_last : ([Instr.rmb0, .rmb1, .rmb2, .rmb3, .rmb4, .rmb5, .rmb6, .rmb7])[7]? = some Instr.rmb7 ∧
    ([Instr.smb0, .smb1, .smb2, .smb3, .smb4, .smb5, .smb6, .smb7])[7]? = some Instr.smb7 := ⟨rfl, rfl⟩

theorem witness_RmbSmbWriteOneBit_refused :
    Instr.smb7 ∈ [Instr.rmb0, .rmb1, .rmb2, .rmb3, .rmb4, .rmb5, .rmb6, .rmb7] ++
      [.smb0, .smb1, .smb2, .smb3, .smb4, .smb5, .smb6, .smb7] ∧ capsBase.bitops = false :=
  ⟨by simp, rfl⟩

/-- Taken and not taken, for every one of the nine conditions but that BRA is always taken. -/
theorem witness_BranchesTestOneFlag_conditions :
    let p : Flags := (regs 0x00#8 0x00#8 0x00#8 0xFF#8 0b110011#6).p
    let q : Flags := (regs 0x00#8 0x00#8 0x00#8 0xFF#8 0b000000#6).p
    (p.c = true ∧ p.z = true ∧ p.n = true ∧ p.v = true) ∧ (q.c = false ∧ q.z = false ∧ q.n = false ∧ q.v = false) := by
  decide

/-- The offset that still stays on the page of the next instruction, and the one that leaves it. -/
theorem witness_BranchesTestOneFlag_pages :
    hiByte (atNop.after 2 + (0x7F#8).signExtend 16) = hiByte (atNop.after 2) ∧
    hiByte (atNop.after 2 + (0xFD#8).signExtend 16) ≠ hiByte (atNop.after 2) := by decide

theorem witness_BitBranchesTestOneBit_first : ([Instr.bbr0, .bbr1, .bbr2, .bbr3, .bbr4, .bbr5, .bbr6, .bbr7])[0]? = some Instr.bbr0 ∧
    ([Instr.bbs0, .bbs1, .bbs2, .bbs3, .bbs4, .bbs5, .bbs6, .bbs7])[0]? = some Instr.bbs0 := ⟨rfl, rfl⟩

theorem witness_BitBranchesTestOneBit_last : ([Instr.bbr0, .bbr1, .bbr2, .bbr3, .bbr4, .bbr5, .bbr6, .bbr7])[7]? = some Instr.bbr7 ∧
    ([Instr.bbs0, .bbs1, .bbs2, .bbs3, .bbs4, .bbs5, .bbs6, .bbs7])[7]? = some Instr.bbs7 := ⟨rfl, rfl⟩

theorem witness_BitBranchesTestOneBit_both_bits :
    let s := start (regs 0x00#8 0x00#8 0x00#8 0xFF#8 0b000000#6) 0x0200#16 [(0x0010, 0x80#8)]
    (s.memRead (wordOf 0x00#8 0x10#8)).getLsbD 7 = true ∧ (s.memRead (wordOf 0x00#8 0x10#8)).getLsbD 0 ≠ true := by decide

theorem witness_BitBranchesTestOneBit_refused :
    Instr.bbs7 ∈ [Instr.bbr0, .bbr1, .bbr2, .bbr3, .bbr4, .bbr5, .bbr6, .bbr7] ++
      [.bbs0, .bbs1, .bbs2, .bbs3, .bbs4, .bbs5, .bbs6, .bbs7] ∧ capsBase.bitops = false :=
  ⟨by simp, rfl⟩

/-- `JSR $3000` at $0200 with S = 0, whose pushes go to $0100 and $01FF. -/
theorem witness_JsrPushesTheReturnAddress :
    let s := start (regs 0x00#8 0x00#8 0x00#8 0x00#8 0b000000#6) 0x0200#16 [(0x0200, 0x20#8), (0x0202, 0x30#8)]
    let m := mirrorAddr s.cfg.memcfg
    m (s.after 2) ≠ m (0x01#8 ++ s.r.sp) ∧ m (s.after 2) ≠ m (0x01#8 ++ (s.r.sp - 1#8)) ∧ s.memRead (s.after 2) = 0x30#8 ∧
    m 0x01FE#16 ≠ m (0x01#8 ++ s.r.sp) ∧ m 0x01FE#16 ≠ m (0x01#8 ++ (s.r.sp - 1#8)) := by decide

theorem witness_JsrThenRtsReturns :
    let s := start (regs 0x00#8 0x00#8 0x00#8 0x00#8 0b000000#6) 0x0200#16 []
    regionKind s.cfg.memcfg (0x01#8 ++ s.r.sp) = some .ram ∧
    regionKind s.cfg.memcfg (0x01#8 ++ (s.r.sp - 1#8)) = some .ram ∧
    mirrorAddr s.cfg.memcfg (0x01#8 ++ s.r.sp) ≠ mirrorAddr s.cfg.memcfg (0x01#8 ++ (s.r.sp - 1#8)) := by decide

/-- The stack bytes of a trap at S = 1, $0101, $0100 and $01FF; and an address that is none of them. -/
theorem witness_BrkTakesTheTrap_RtiReturnsFromTraps :
    let s := start (regs 0x00#8 0x00#8 0x00#8 0x01#8 0b101001#6) 0x0200#16 []
    let c := s.cfg.memcfg
    let a1 : Word := 0x01#8 ++ s.r.sp
    let a2 : Word := 0x01#8 ++ (s.r.sp - 1#8)
    let a3 : Word := 0x01#8 ++ (s.r.sp - 2#8)
    (regionKind c a1 = some .ram ∧ regionKind c a2 = some .ram ∧ regionKind c a3 = some .ram) ∧
    (mirrorAddr c a1 ≠ mirrorAddr c a2 ∧ mirrorAddr c a1 ≠ mirrorAddr c a3 ∧ mirrorAddr c a2 ≠ mirrorAddr c a3) ∧
    (mirrorAddr c 0x01FE#16 ≠ mirrorAddr c a1 ∧ mirrorAddr c 0x01FE#16 ≠ mirrorAddr c a2 ∧
      mirrorAddr c 0x01FE#16 ≠ mirrorAddr c a3) := by decide

theorem witness_WaiStpChangeRunAlone_refused : capsBase.waistp = false := rfl

theorem witness_BusTracesMatchTheTemplates : ∃ t, exec (.adcIzy 0x10#8) atNop = .next t ∧ t.cyc = 5 := ⟨_, rfl, by decide⟩

theorem witness_StepRunsDecodedInstruction :
    atNop.atBoundary ∧ atNop.nmiDue = false ∧ atNop.irqDue = false ∧ Instr.wellFormed atNop.cfg.caps .nop = true ∧
    atNop.holds .nop :=
  ⟨⟨rfl, rfl⟩, rfl, rfl, rfl, by unfold State.holds; decide⟩

theorem witness_PlaceholderOpcodeFaults :
    let s := start (regs 0x11#8 0x00#8 0x00#8 0xFF#8 0b000100#6) 0x0200#16 [(0x0200, 0x5C#8)]
    s.atBoundary ∧ s.nmiDue = false ∧ s.irqDue = false ∧ placeholderOpcode s.cfg.caps (s.memRead s.pc) = true :=
  ⟨⟨rfl, rfl⟩, rfl, rfl, by decide⟩

/-- The same for an opcode whose group is not in CAPS. -/
theorem witness_PlaceholderOpcodeFaults_absent_group :
    let s := startWith { Config.default with caps := capsBase } 0x0200#16 [(0x0200, 0xCB#8)]
    s.atBoundary ∧ s.nmiDue = false ∧ s.irqDue = false ∧ placeholderOpcode s.cfg.caps (s.memRead s.pc) = true :=
  ⟨⟨rfl, rfl⟩, rfl, rfl, by decide⟩

theorem witness_NmiIsTaken : (beforeNmi.atBoundary ∨ beforeNmi.run = .waiting) ∧ beforeNmi.nmiDue = true :=
  ⟨.inl ⟨rfl, rfl⟩, rfl⟩

/-- NMI while waiting, with I = 1 and IRQ asserted too. -/
theorem witness_NmiIsTaken_waiting :
    let s := waitingMasked.withInputs [{ nmiEdge := true, irq := true }]
    (s.atBoundary ∨ s.run = .waiting) ∧ s.nmiDue = true :=
  ⟨.inr rfl, rfl⟩

theorem witness_IrqIsTaken :
    (beforeIrq.atBoundary ∨ beforeIrq.run = .waiting) ∧ beforeIrq.nmiDue = false ∧ beforeIrq.irqDue = true :=
  ⟨.inl ⟨rfl, rfl⟩, rfl, rfl⟩

theorem witness_IrqIsTaken_waiting :
    let s := beforeIrq.withRun .waiting
    (s.atBoundary ∨ s.run = .waiting) ∧ s.nmiDue = false ∧ s.irqDue = true :=
  ⟨.inr rfl, rfl, rfl⟩

theorem witness_WaitingIdlesAndWakes_idle :
    waitingMasked.run = .waiting ∧ waitingMasked.nmiDue = false ∧ waitingMasked.host.latch.irqLine = false := by decide

theorem witness_WaitingIdlesAndWakes_masked_irq :
    let s := waitingMasked.withInputs [{ nmiEdge := false, irq := true }]
    s.run = .waiting ∧ s.nmiDue = false ∧ s.host.latch.irqLine = true ∧ s.r.p.i = true ∧
    Instr.wellFormed s.cfg.caps .nop = true ∧ s.holds .nop :=
  ⟨rfl, rfl, rfl, rfl, rfl, by unfold State.holds; decide⟩

theorem witness_StoppedIdlesForEver : (waitingMasked.withRun .stopped).run = .stopped := rfl

/-- The tick that begins an NMI sequence, and one that does not. -/
theorem witness_EveryTickEmitsAndLatches :
    (∃ t, tick beforeNmi = .next t ∧ t.seq = .int .nmi ∧ t.t = 2 ∧ t.nmiPending = false) ∧
    (∃ t, tick atNop = .next t ∧ t.nmiPending = atNop.host.latch.nmiPending) :=
  ⟨⟨_, rfl, rfl, rfl, rfl⟩, ⟨_, rfl, rfl⟩⟩

/-- The invariant holds of a state with NOP at PC after two cycles, and a step from it answers a next state. -/
theorem witness_EveryStepKeepsTheInvariant : ∃ t, atNop.Inv ∧ step atNop = .next t ∧ t.cyc = 2 :=
  ⟨_, ⟨by decide, rfl, rfl, by decide, fun _ hb => nomatch hb⟩, rfl, by decide⟩

theorem witness_ResetHasTheInvariant : Memory.wf [(0xFFFC, 0x34#8), (0xFFFD, 0x12#8)] = true := by decide

/-- `STA $8000` under a configuration in which $8000 is ROM and $F000 unmapped; and a state whose memory lists an index to
which no RAM address is mirrored. -/
theorem witness_OnlyRamChanges :
    let s := startWith romConfig 0x0200#16 [(0x0200, 0x8D#8), (0x0202, 0x80#8), (0x8000, 0x55#8)]
    (∃ t, step s = .next t) ∧ regionKind s.cfg.memcfg 0x8000#16 ≠ some .ram ∧
    regionKind s.cfg.memcfg 0xF000#16 ≠ some .ram :=
  ⟨⟨_, rfl⟩, by decide, by decide⟩

theorem witness_OnlyRamChanges_index (a : Word) (h : kindIn romConfig.memcfg.regions a = some .ram) :
    (mirrorAddr romConfig.memcfg a).toNat ≠ 0x8000 := by
  intro h'
  have e : a = 0x8000#16 := BitVec.eq_of_toNat_eq h'
  subst e
  exact absurd h (by decide)

/-- Instructions that change D, I, V and no other flag than those. -/
theorem witness_FlagsChangeOnlyByTheListedInstructions :
    (∃ t, exec .sed atNop = .next t ∧ t.r.p.d ≠ atNop.r.p.d) ∧ (∃ t, exec .sei atNop = .next t ∧ t.r.p.i ≠ atNop.r.p.i) ∧
    (∃ t, exec (.adcImm 0x80#8) (atNop.setA 0x80#8) = .next t ∧ t.r.p.v ≠ (atNop.setA 0x80#8).r.p.v) ∧
    (∃ t, exec .sec atNop = .next t ∧ t.r.p ≠ atNop.r.p) :=
  ⟨⟨_, rfl, by decide⟩, ⟨_, rfl, by decide⟩, ⟨_, rfl, by decide⟩, ⟨_, rfl, by decide⟩⟩

theorem witness_StateChangesOnlyByTheListedInstructions :
    (∃ t, exec .inx atNop = .next t ∧ t.r.x ≠ atNop.r.x) ∧ (∃ t, exec .dey atNop = .next t ∧ t.r.y ≠ atNop.r.y) ∧
    (∃ t, exec .txs atNop = .next t ∧ t.r.sp ≠ atNop.r.sp) ∧ (∃ t, exec .php atNop = .next t ∧ t.mem ≠ atNop.mem) ∧
    (∃ t, exec .wai atNop = .next t ∧ t.run ≠ atNop.run) ∧
    (∃ t, exec .rti (atNop.withSvc .servicingIrq) = .next t ∧ t.svc ≠ .servicingIrq) :=
  ⟨⟨_, rfl, by decide⟩, ⟨_, rfl, by decide⟩, ⟨_, rfl, by decide⟩, ⟨_, rfl, by decide⟩, ⟨_, rfl, by decide⟩,
    ⟨_, rfl, by decide⟩⟩

/-- Two states that agree and differ in `svc`, in a latch and in `cyc`; and a faulted one. -/
theorem witness_DeadStateHasNoInfluence :
    Agree atNop (((atNop.withSvc .servicingNmi).setCross true).withCyc 7) ∧ (∃ t, step atNop = .next t) ∧
    step (atNop.withRun (.faulted 0x02#8 0x0200#16)) = .fault (.decodeError 0x02#8 0x0200#16) :=
  ⟨⟨rfl, rfl, rfl, rfl, rfl, rfl, rfl, rfl, rfl⟩, ⟨_, rfl⟩, rfl⟩

/-! ## The parameters DA1 to DA22 (40_addressing_and_bus_cycles.md R114); the addresses worked out by hand from the table -/

/-- The addresses of the BusCycles of one step, oldest first. -/
def addresses (s : State) : List Word :=
  match step s with
  | .next t => t.bus.reverse.map BusCycle.addr
  | .fault _ => []
  | .refused _ => []

/-- `LDA $12F0,X` with X = $20, which crosses a page, under the given parameters. -/
def crossingRead (p : DummyAddrs) : State :=
  (startWith { Config.default with dummies := p } 0x0200#16 [(0x0200, 0xBD#8), (0x0201, 0xF0#8), (0x0202, 0x12#8)]).setX
    0x20#8

theorem test_da4_default :
    addresses (crossingRead {}) = [0x0200#16, 0x0201#16, 0x0202#16, 0x0202#16, 0x1310#16] := by decide

/-- DA4 as the uncorrected address: the high byte of ADH:ADL, the low byte of EA. -/
theorem test_da4_given_in_terms_of_the_state :
    addresses (crossingRead { da4 := .join .adr .ea }) = [0x0200#16, 0x0201#16, 0x0202#16, 0x1210#16, 0x1310#16] := by
  decide

/-- NOP: DA1 as a given address in cycle 1 and its default in any other cycle. -/
theorem test_da1_given_for_one_cycle :
    addresses (startWith { Config.default with dummies := { da1 := .atCycle 1 (.fixed 0x4000#16) .dflt } } 0x0200#16
      [(0x0200, 0xEA#8)]) = [0x0200#16, 0x4000#16] := by decide

end Sys2Proof.Tests
end

section
/-! PROOF of O52, that ticking composes to the step (00_scope.md R7). Three facts carry it. A cycle ends its program or goes
on to the next cycle of the same program, the eighth at most (`cycleRow_endsOrContinues`), so the ticks find the program
again and the bound of `runCycles` is enough. The bytes an instruction was decoded from are the bytes its operand fetches
find at PC (`OperandsAt`). The slot of an opcode fixes the program whatever the operand bytes are (`opcodeForm_fits`). -/

namespace Sys2Proof.Machine

/-! ## What one cycle does to the sequencer -/

/-- The part of a state that decides which cycle of which program comes next. -/
structure SequencerView where
  run : RunMode
  t : Nat
  seq : Seq
  ir : Byte
  cfg : Config

/-- The sequencer's part of a state. Where two states have the same, the tick finds the same cycle of the same program. -/
def State.sequencer (s : State) : SequencerView :=
  { run := s.run, t := s.t, seq := s.seq, ir := s.lat.ir, cfg := s.cfg }

@[simp] theorem State.sequencer_withR (s : State) (r : Regs) : (s.withR r).sequencer = s.sequencer := rfl
@[simp] theorem State.sequencer_withPc (s : State) (a : Word) : (s.withPc a).sequencer = s.sequencer := rfl
@[simp] theorem State.sequencer_withLat (s : State) (l : Latches) :
    (s.withLat l).sequencer = { s.sequencer with ir := l.ir } := rfl
@[simp] theorem State.sequencer_with_ir (s : State) : { s.sequencer with ir := s.lat.ir } = s.sequencer := rfl
@[simp] theorem State.sequencer_busRead (s : State) (a : Word) : (s.busRead a).sequencer = s.sequencer := by
  simp [State.sequencer]
@[simp] theorem State.sequencer_vectorRead (s : State) (a : Word) : (s.vectorRead a).sequencer = s.sequencer := by
  simp [State.sequencer]
@[simp] theorem State.sequencer_dummyRead (s : State) (d : Dummy) (a : Word) :
    (s.dummyRead d a).sequencer = s.sequencer := by
  simp [State.sequencer]
@[simp] theorem State.sequencer_fetchByte (s : State) (b : Byte) : (s.fetchByte b).sequencer = s.sequencer := by
  simp [State.sequencer]
@[simp] theorem State.sequencer_push (s : State) (v : Byte) : (s.push v).sequencer = s.sequencer := by
  simp [State.sequencer]
@[simp] theorem State.sequencer_latchInputs (s : State) : s.latchInputs.sequencer = s.sequencer := by
  simp [State.sequencer]

theorem State.sequencer_more {s u : State} (h : u.sequencer = s.sequencer) :
    u.more.sequencer = { s.sequencer with t := s.t + 1 } := by
  rw [← h, show s.t = u.t from congrArg SequencerView.t h.symm]; rfl

@[simp] theorem State.sequencer_rowAbsIndexing (s : State) (always : Bool) :
    (s.rowAbsIndexing always).sequencer = s.sequencer := by
  unfold State.rowAbsIndexing; split_ifs <;> simp

@[simp] theorem State.sequencer_rowIzyIndexing (s : State) (always : Bool) :
    (s.rowIzyIndexing always).sequencer = s.sequencer := by
  unfold State.rowIzyIndexing; split_ifs <;> simp

/-- The addressing rows leave the sequencer to the `more` that ends them. -/
theorem State.sequencer_addressRow (s : State) (m : DataMode) (always : Bool) (b : Byte) :
    (s.addressRow m always b).sequencer = s.sequencer := by
  cases m <;> simp only [State.addressRow]
  case zp => simp [State.rowZpa]
  all_goals
    split <;>
      simp [State.rowZpa, State.rowAdl, State.rowAdhEa, State.rowAdhIndexed, State.rowPointerLo, State.rowPointerHi,
        State.rowPointerHiY]

/-- What a cycle can do to the sequencer: end the program at the boundary `T = 1`, or go on to the program's next cycle,
which is the eighth at most (40_addressing_and_bus_cycles.md R110 step 5). -/
def EndsOrContinues (s u : State) : Prop :=
  u.t = 1 ∨ (u.sequencer = { s.sequencer with t := s.t + 1 } ∧ s.t ≤ 7)

@[simp] theorem endsOrContinues_last (s u : State) : EndsOrContinues s u.last := .inl rfl

@[simp] theorem endsOrContinues_more {s u : State} (h : u.sequencer = s.sequencer) (hle : s.t ≤ 7) :
    EndsOrContinues s u.more := .inr ⟨State.sequencer_more h, hle⟩

theorem lastAddressCycle_le (m : DataMode) (always cross : Bool) : lastAddressCycle m always cross ≤ 5 := by
  cases m <;> cases always <;> cases cross <;> decide

theorem State.trapEntryRow_endsOrContinues (s : State) (vec : Word) (b : Bool) :
    EndsOrContinues s (s.trapEntryRow vec b) := by
  unfold State.trapEntryRow; split <;> simp [*]

theorem State.readRow_endsOrContinues (s : State) (m : DataMode) (decimal : Bool) (op : Byte → Regs → Regs)
    (b : Byte) : EndsOrContinues s (s.readRow m decimal op b) := by
  have hle := lastAddressCycle_le m false s.lat.cross
  unfold State.readRow State.dataReadRow State.decimalRow
  split_ifs
  · exact endsOrContinues_more (s.sequencer_addressRow m false b) (by omega)
  · exact endsOrContinues_more (by simp) (by omega)
  · exact endsOrContinues_last _ _
  · exact endsOrContinues_last _ _

theorem State.writeRow_endsOrContinues (s : State) (m : DataMode) (v : Regs → Byte) (b : Byte) :
    EndsOrContinues s (s.writeRow m v b) := by
  have hle := lastAddressCycle_le m true s.lat.cross
  unfold State.writeRow
  split_ifs
  · exact endsOrContinues_more (s.sequencer_addressRow m true b) (by omega)
  · exact endsOrContinues_last _ _

theorem State.modifyRow_endsOrContinues (s : State) (m : DataMode) (always : Bool) (res : Byte → Regs → Byte)
    (fl : Byte → Regs → Flags) (b : Byte) : EndsOrContinues s (s.modifyRow m always res fl b) := by
  have hle := lastAddressCycle_le m always s.lat.cross
  unfold State.modifyRow
  split_ifs
  · exact endsOrContinues_more (s.sequencer_addressRow m always b) (by omega)
  · exact endsOrContinues_more (by simp) (by omega)
  · exact endsOrContinues_more (by simp) (by omega)
  · exact endsOrContinues_last _ _

theorem State.takenRow_endsOrContinues (s : State) (hle : s.t ≤ 7) : EndsOrContinues s s.takenRow := by
  unfold State.takenRow; split_ifs <;> simp [hle]

theorem State.takenCrossRow_endsOrContinues (s : State) : EndsOrContinues s s.takenCrossRow := endsOrContinues_last _ _

theorem State.branchRow_endsOrContinues (s : State) (cond : Flags → Bool) (b : Byte) :
    EndsOrContinues s (s.branchRow cond b) := by
  unfold State.branchRow
  split
  · split_ifs <;> simp [*]
  · exact s.takenRow_endsOrContinues (by omega)
  · exact s.takenCrossRow_endsOrContinues

theorem State.bitBranchRow_endsOrContinues (s : State) (n : Nat) (sense : Bool) (b : Byte) :
    EndsOrContinues s (s.bitBranchRow n sense b) := by
  unfold State.bitBranchRow
  split
  case h_4 => split_ifs <;> simp [*]
  case h_5 => exact s.takenRow_endsOrContinues (by omega)
  case h_6 => exact s.takenCrossRow_endsOrContinues
  all_goals simp [State.rowZpa, *]

theorem State.immRow_endsOrContinues (s : State) (decimal : Bool) (op : Byte → Regs → Regs) (b : Byte) :
    EndsOrContinues s (s.immRow decimal op b) := by
  unfold State.immRow
  split
  · split_ifs <;> simp [*]
  · exact endsOrContinues_last _ _

theorem State.jumpPointerRow_endsOrContinues (s : State) : EndsOrContinues s s.jumpPointerRow := by
  unfold State.jumpPointerRow; split <;> simp [*]

/-- Every cycle of every program; the interrupt sequence alone has rows for a cycle 1. -/
theorem cycleRow_endsOrContinues (p : MicroProgram) (b : Byte) (s : State) (h : s.t ≠ 1) :
    EndsOrContinues s (cycleRow p b s) := by
  cases p with
  | imp op => exact endsOrContinues_last _ _
  | imm decimal op => exact s.immRow_endsOrContinues decimal op b
  | read m decimal op => exact s.readRow_endsOrContinues m decimal op b
  | write m v => exact s.writeRow_endsOrContinues m v b
  | modify m always res fl => exact s.modifyRow_endsOrContinues m always res fl b
  | branch cond => exact s.branchRow_endsOrContinues cond b
  | bitBranch n sense => exact s.bitBranchRow_endsOrContinues n sense b
  | jmpAbs => simp only [cycleRow, State.jmpAbsRow]; split <;> simp [State.rowAdl, *]
  | jmpInd =>
    simp only [cycleRow, State.jmpIndRow]
    split <;> simp [State.rowAdl, State.rowAdhEa, State.jumpPointerRow_endsOrContinues, *]
  | jmpIax =>
    simp only [cycleRow, State.jmpIaxRow]
    split <;> simp [State.rowAdl, State.jumpPointerRow_endsOrContinues, *]
  | jsr => simp only [cycleRow, State.jsrRow]; split <;> simp [State.rowAdl, *]
  | rts => simp only [cycleRow, State.rtsRow]; split <;> simp [*]
  | rti => simp only [cycleRow, State.trapReturnRow]; split <;> simp [*]
  | brk => simp only [cycleRow, State.brkRow]; split <;> simp [State.trapEntryRow_endsOrContinues, *]
  | push v => simp only [cycleRow, State.pushRow]; split <;> simp [*]
  | pull op => simp only [cycleRow, State.pullRow]; split <;> simp [*]
  | halt mode => simp only [cycleRow, State.haltRow]; split <;> simp [*]
  | interrupt k =>
    simp only [cycleRow, State.interruptRow]
    split
    · exact absurd ‹s.t = 1› h
    · simp [*]
    · exact s.trapEntryRow_endsOrContinues _ _

theorem nextCycle_endsOrContinues (p : MicroProgram) (stream : State → Byte) (s : State) (h : s.t ≠ 1) :
    EndsOrContinues s (nextCycle p stream s) := by
  simpa [EndsOrContinues, nextCycle] using
    cycleRow_endsOrContinues p (stream s.latchInputs) s.latchInputs (by simpa using h)

/-! ## The run of a program's cycles -/

/-- Every program ends within the bound, from every cycle: one cycle from a cycle number 0, which no run reaches. -/
theorem runCycles_ends (p : MicroProgram) (stream : State → Byte) (n : Nat) (s : State) (hn : 1 ≤ n)
    (hs : s.t ≤ 1 ∨ 9 ≤ n + s.t) : (runCycles n p stream s).t = 1 := by
  induction n generalizing s with
  | zero => omega
  | succ n ih =>
    by_cases h1 : s.t = 1
    · rw [runCycles_boundary _ _ _ _ h1, h1]
    rw [runCycles_cycle _ _ _ _ h1]
    rcases nextCycle_endsOrContinues p stream s h1 with h | ⟨hq, hle⟩
    · rw [runCycles_boundary _ _ _ _ h, h]
    · have ht : (nextCycle p stream s).t = s.t + 1 := congrArg SequencerView.t hq
      by_cases h0 : s.t = 0
      · have h : (nextCycle p stream s).t = 1 := by omega
        rw [runCycles_boundary _ _ _ _ h, h]
      · exact ih _ (by omega) (by omega)

/-- A run that has come to the boundary stays there with one cycle more. -/
theorem runCycles_succ_of_ends {p : MicroProgram} {stream : State → Byte} {n : Nat} {s : State}
    (h : (runCycles n p stream s).t = 1) : runCycles (n + 1) p stream s = runCycles n p stream s := by
  induction n generalizing s with
  | zero => exact runCycles_boundary _ _ _ _ h
  | succ n ih =>
    by_cases h1 : s.t = 1
    · simp only [runCycles_boundary _ _ _ _ h1]
    · rw [runCycles_cycle _ _ _ _ h1] at h
      rw [runCycles_cycle _ _ _ _ h1, runCycles_cycle _ _ _ _ h1, ih h]

theorem runCycles_cycleBound_succ (p : MicroProgram) (stream : State → Byte) (s : State) :
    runCycles (cycleBound + 1) p stream s = runCycles cycleBound p stream s :=
  runCycles_succ_of_ends (runCycles_ends p stream cycleBound s (by decide) (by simp only [cycleBound]; omega))

/-! ## The tick in each mode (60_exceptions.md R348), as Laws/Boundary.lean has the step -/

theorem tick_faulted {s : State} {op : Byte} {a : Word} (h : s.run = .faulted op a) :
    tick s = .fault (.decodeError op a) := by simp [tick, h]

theorem tick_stopped {s : State} (h : s.run = .stopped) : tick s = .next s.latchInputs.idleCycle := by simp [tick, h]

theorem tick_waiting_idle {s : State} (h : s.run = .waiting) (hw : woken s.latchInputs = false) :
    tick s = .next s.latchInputs.idleCycle := by simp [tick, h, hw]

theorem tick_waiting_woken {s : State} (h : s.run = .waiting) (hw : woken s.latchInputs = true) :
    tick s = .next (boundaryTick (s.latchInputs.withRun .running)) := by simp [tick, h, hw]

theorem tick_boundary {s : State} (h : s.run = .running) (ht : s.t = 1) :
    tick s = .next (boundaryTick s.latchInputs) := by simp [tick, h, ht]

theorem tick_mid {s : State} {p : MicroProgram} (hr : s.run = .running) (ht : s.t ≠ 1)
    (hp : runningProgram s = some p) : tick s = .next (nextCycle p memoryStream s) := by simp [tick, hr, ht, hp]

theorem tick_mid_none {s : State} (hr : s.run = .running) (ht : s.t ≠ 1) (hp : runningProgram s = none) :
    tick s = .fault (.noMicroProgram s.lat.ir) := by simp [tick, hr, ht, hp]

/-! ## Ticks inside a program -/

theorem runningProgram_congr {s u : State} (hseq : u.seq = s.seq) (hir : u.lat.ir = s.lat.ir) (hcfg : u.cfg = s.cfg) :
    runningProgram u = runningProgram s := by simp [runningProgram, hseq, hir, hcfg]

theorem ticksToBoundary_fault {s : State} {f : Fault} (k : Nat) (h : tick s = .fault f) :
    ticksToBoundary k s = .fault f := by rw [ticksToBoundary, h]

theorem ticksToBoundary_zero {s t : State} (h : tick s = .next t) : ticksToBoundary 0 s = .next t := by
  rw [ticksToBoundary, h]

theorem ticksToBoundary_succ {s t : State} (k : Nat) (h : tick s = .next t) :
    ticksToBoundary (k + 1) s = if t.run = .running ∧ t.t ≠ 1 then ticksToBoundary k t else .next t := by
  rw [ticksToBoundary, h]

/-- Inside a program the ticks are the program's remaining cycles, as many as the fuel allows. -/
theorem ticksToBoundary_mid {p : MicroProgram} (k : Nat) {s : State} (hr : s.run = .running) (ht : s.t ≠ 1)
    (hp : runningProgram s = some p) :
    ticksToBoundary k s = .next (runCycles (k + 1) p memoryStream s) := by
  induction k generalizing s with
  | zero => rw [ticksToBoundary_zero (tick_mid hr ht hp), runCycles_cycle _ _ _ _ ht]; rfl
  | succ k ih =>
    rw [ticksToBoundary_succ k (tick_mid hr ht hp), runCycles_cycle _ _ _ _ ht]
    rcases nextCycle_endsOrContinues p memoryStream s ht with h | ⟨hq, -⟩
    · rw [if_neg (fun hc => hc.2 h), runCycles_boundary _ _ _ _ h]
    · simp only [State.sequencer, SequencerView.mk.injEq] at hq
      obtain ⟨hrun, -, hseq, hir, hcfg⟩ := hq
      by_cases h : (nextCycle p memoryStream s).t = 1
      · rw [if_neg (fun hc => hc.2 h), runCycles_boundary _ _ _ _ h]
      · rw [if_pos ⟨hrun.trans hr, h⟩]
        exact ih (hrun.trans hr) h ((runningProgram_congr hseq hir hcfg).trans hp)

/-- From inside a program: ticking gives what `resume` gives. -/
theorem ticksToBoundary_eq_resume {s : State} (hr : s.run = .running) (ht : s.t ≠ 1) :
    ticksToBoundary cycleBound s = resume s := by
  cases hp : runningProgram s with
  | none => simp only [ticksToBoundary_fault _ (tick_mid_none hr ht hp), resume, hp]
  | some p => simp only [ticksToBoundary_mid _ hr ht hp, runCycles_cycleBound_succ, resume, hp]

/-! ## The operand bytes -/

/-- The last cycle in which a program may use the operand byte it is given, 0 where it uses none; for T_JMP_ABS 8, the
last cycle of all, since its row for cycle 3 stands for every later cycle number (log 16). -/
def lastOperandCycle : MicroProgram → Nat
  | .imm .. => 2
  | .read m .. => m.bytes
  | .write m .. => m.bytes
  | .modify m .. => m.bytes
  | .branch .. => 2
  | .bitBranch .. => 5
  | .jmpAbs => 8
  | .jmpInd => 3
  | .jmpIax => 3
  | .jsr => 2
  | .imp .. => 0
  | .rts => 0
  | .rti => 0
  | .brk => 0
  | .push .. => 0
  | .pull .. => 0
  | .halt .. => 0
  | .interrupt .. => 0

/-- The addressing rows after the last operand cycle of the mode. -/
theorem State.addressRow_congr (s : State) (m : DataMode) (always : Bool) (b b' : Byte) (h2 : m.bytes < s.t)
    (hle : s.t ≤ lastAddressCycle m always s.lat.cross) : s.addressRow m always b = s.addressRow m always b' := by
  cases m <;> simp only [DataMode.bytes] at h2 <;> simp only [lastAddressCycle] at hle <;> simp only [State.addressRow]
  case zp => omega
  case abs => omega
  case abx | aby =>
    split
    · omega
    · omega
    · rfl
  all_goals
    split
    · omega
    all_goals rfl

/-- After its last operand cycle a program does not depend on the byte it is given. -/
theorem cycleRow_congr {p : MicroProgram} {s : State} (b b' : Byte) (h2 : 2 ≤ s.t) (h8 : s.t ≤ 8)
    (h : lastOperandCycle p < s.t) : cycleRow p b s = cycleRow p b' s := by
  cases p <;> simp only [lastOperandCycle] at h <;> simp only [cycleRow]
  case read m decimal op =>
    unfold State.readRow
    split_ifs with hle
    · rw [s.addressRow_congr m false b b' h hle]
    all_goals rfl
  case write m v =>
    unfold State.writeRow
    split_ifs with hle
    · rw [s.addressRow_congr m true b b' h hle]
    · rfl
  case modify m always res fl =>
    unfold State.modifyRow
    split_ifs with hle
    · rw [s.addressRow_congr m always b b' h hle]
    all_goals rfl
  case imm decimal op =>
    unfold State.immRow
    split
    · omega
    · rfl
  case branch cond =>
    unfold State.branchRow
    split
    · omega
    all_goals rfl
  case bitBranch n sense =>
    unfold State.bitBranchRow
    split
    case h_1 | h_2 | h_3 | h_4 => omega
    all_goals rfl
  case jmpAbs => omega
  case jmpInd =>
    unfold State.jmpIndRow
    split
    case h_1 | h_2 => omega
    all_goals rfl
  case jmpIax =>
    unfold State.jmpIaxRow
    split
    case h_1 | h_2 => omega
    all_goals rfl
  case jsr =>
    unfold State.jsrRow
    split
    · omega
    all_goals rfl

theorem bytes_le_lastAddressCycle (m : DataMode) (always cross : Bool) :
    m.bytes ≤ lastAddressCycle m always cross := by
  cases m <;> cases always <;> cases cross <;> decide

theorem State.addressRow_first {s : State} {m : DataMode} (always : Bool) (b : Byte) (hm : 2 < m.bytes) (h : s.t = 2) :
    s.addressRow m always b = s.rowAdl b := by
  cases m <;> simp [DataMode.bytes] at hm <;> simp [State.addressRow, h]

/-- Between its operand cycles a program leaves memory alone and moves PC only past the byte it has fetched. -/
def KeepsOperands (s u : State) : Prop :=
  u.t = 1 ∨ (u.mem = s.mem ∧ u.pc = if s.t = 2 then s.pc + 1#16 else s.pc)

theorem KeepsOperands.first {s : State} {m : DataMode} (always : Bool) (b : Byte) (h2 : 2 ≤ s.t) (h : s.t < m.bytes) :
    KeepsOperands s (s.addressRow m always b).more := by
  have hb : m.bytes ≤ 3 := by cases m <;> decide
  have ht : s.t = 2 := by omega
  rw [State.addressRow_first always b (by omega) ht]
  exact .inr (by simp [State.rowAdl, ht])

theorem cycleRow_keepsOperands (p : MicroProgram) (b : Byte) {s : State} (h2 : 2 ≤ s.t)
    (h : s.t < lastOperandCycle p) : KeepsOperands s (cycleRow p b s) := by
  cases p <;> simp only [lastOperandCycle] at h <;> simp only [cycleRow]
  case read m decimal op =>
    have := bytes_le_lastAddressCycle m false s.lat.cross
    rw [State.readRow, if_pos (by omega)]
    exact .first false b h2 h
  case write m v =>
    have := bytes_le_lastAddressCycle m true s.lat.cross
    rw [State.writeRow, if_pos (by omega)]
    exact .first true b h2 h
  case modify m always res fl =>
    have := bytes_le_lastAddressCycle m always s.lat.cross
    rw [State.modifyRow, if_pos (by omega)]
    exact .first always b h2 h
  case bitBranch n sense =>
    have ht : s.t = 2 ∨ s.t = 3 ∨ s.t = 4 := by omega
    rcases ht with ht | ht | ht <;> simp [State.bitBranchRow, ht, KeepsOperands, State.rowZpa]
  case jmpAbs => unfold State.jmpAbsRow; split <;> simp [KeepsOperands, State.rowAdl, *]
  case jmpInd => simp [State.jmpIndRow, show s.t = 2 by omega, KeepsOperands, State.rowAdl]
  case jmpIax => simp [State.jmpIaxRow, show s.t = 2 by omega, KeepsOperands, State.rowAdl]
  all_goals omega

/-- In the cycles that may still use an operand byte, the byte the instruction has is the byte memory has at PC. -/
structure OperandsAt (i : Instr) (p : MicroProgram) (s : State) : Prop where
  two_le : 2 ≤ s.t
  le_eight : s.t ≤ 8
  first : s.t = 2 → 2 ≤ lastOperandCycle p → s.memRead s.pc = i.op1
  second : s.t = 2 → 3 ≤ lastOperandCycle p → s.memRead (s.pc + 1#16) = i.op2
  later : 3 ≤ s.t → s.t ≤ lastOperandCycle p → s.memRead s.pc = i.op2

theorem OperandsAt.latchInputs {i : Instr} {p : MicroProgram} {s : State} (h : OperandsAt i p s) :
    OperandsAt i p s.latchInputs := by
  obtain ⟨h2, h8, hf, hs, hl⟩ := h
  constructor <;> simpa [State.memRead]

theorem OperandsAt.cycleRow_eq {i : Instr} {p : MicroProgram} {s : State} (h : OperandsAt i p s) :
    cycleRow p (operandStream i s) s = cycleRow p (memoryStream s) s := by
  by_cases hL : s.t ≤ lastOperandCycle p
  · have hb : operandStream i s = memoryStream s := by
      rw [operandStream_eq, memoryStream]
      split
      · next ht => exact (h.first ht (by omega)).symm
      · next ht => exact (h.later (by have := h.two_le; omega) hL).symm
    rw [hb]
  · exact cycleRow_congr _ _ h.two_le h.le_eight (by omega)

theorem OperandsAt.cycleRow {i : Instr} {p : MicroProgram} {s : State} (b : Byte) (h : OperandsAt i p s)
    (h1 : (cycleRow p b s).t ≠ 1) : OperandsAt i p (cycleRow p b s) := by
  have h2 := h.two_le
  obtain h' | ⟨hq, h7⟩ := cycleRow_endsOrContinues p b s (by omega)
  · exact absurd h' h1
  simp only [State.sequencer, SequencerView.mk.injEq] at hq
  obtain ⟨-, ht, -, -, hcfg⟩ := hq
  refine ⟨by omega, by omega, by omega, by omega, fun _ hL => ?_⟩
  obtain h' | ⟨hmem, hpc⟩ := cycleRow_keepsOperands p b h2 (by omega)
  · exact absurd h' h1
  rw [State.memRead_congr hmem hcfg, hpc]
  split
  · next ht2 => exact h.second ht2 (by omega)
  · next ht2 => exact h.later (by omega) (by omega)

theorem OperandsAt.nextCycle_eq {i : Instr} {p : MicroProgram} {s : State} (h : OperandsAt i p s) :
    nextCycle p (operandStream i) s = nextCycle p memoryStream s := h.latchInputs.cycleRow_eq

/-- An instruction whose operand bytes stand in memory runs as its program does on the bytes it reads at PC. -/
theorem OperandsAt.runCycles_eq {i : Instr} {p : MicroProgram} (n : Nat) {s : State} (h : OperandsAt i p s) :
    runCycles n p (operandStream i) s = runCycles n p memoryStream s := by
  induction n generalizing s with
  | zero => rfl
  | succ n ih =>
    have h1 : s.t ≠ 1 := by have := h.two_le; omega
    rw [runCycles_cycle _ _ _ _ h1, runCycles_cycle _ _ _ _ h1, ← h.nextCycle_eq]
    by_cases ht : (nextCycle p (operandStream i) s).t = 1
    · rw [runCycles_boundary _ _ _ _ ht, runCycles_boundary _ _ _ _ ht]
    · exact ih (h.latchInputs.cycleRow _ ht)

end Sys2Proof.Machine

namespace Sys2Proof

/-! ## The decoder and the programs -/

/-- The operand bytes an instruction of this format has. -/
def Form.operandBytes (f : Form) (b1 b2 : Byte) : List Byte :=
  match f with
  | .f1 _ => []
  | .f2 _ => [b1]
  | .f3 _ => [b1, b2]

/-- The last cycle in which an instruction of this format may use an operand byte. -/
def Form.lastOperandCycle (f : Form) : Nat :=
  match f with
  | .f1 _ => 0
  | .f2 _ => 2
  | .f3 _ => 8

/-- What a decode-table slot says of the opcode `op`: the bytes of the instruction it builds, and its program. -/
structure Form.Fits (f : Form) (op : Byte) : Prop where
  encode : ∀ b1 b2, encode (f.build b1 b2) = op :: f.operandBytes b1 b2
  program : ∀ b1 b2, Machine.program (f.build b1 b2) = Machine.program (f.build 0x00#8 0x00#8)
  lastOperandCycle : Machine.lastOperandCycle (Machine.program (f.build 0x00#8 0x00#8)) ≤ f.lastOperandCycle

theorem opcodeForm_fits {op : Byte} {f : Form} (h : opcodeForm op = some f) : f.Fits op := by
  obtain ⟨n⟩ := op
  fin_cases n <;> cases h <;> exact ⟨fun _ _ => rfl, fun _ _ => rfl, by decide⟩

theorem opcodeForm_of_lookupOpcode {caps : Caps} {op : Byte} {f : Form} (h : lookupOpcode caps op = .ok f) :
    opcodeForm op = some f := by
  unfold lookupOpcode at h
  split at h
  · cases h
  · next g hg =>
    split at h
    · cases h; exact hg
    · cases h

/-- Two bytes are operand bytes enough for every slot. -/
theorem Form.take_pair (f : Form) (b1 b2 : Byte) : ∃ rest, f.take [b1, b2] = .ok (f.build b1 b2) rest := by
  cases f <;> exact ⟨_, rfl⟩

theorem decode_of_lookupOpcode {caps : Caps} {op : Byte} {f : Form} (h : lookupOpcode caps op = .ok f) (b1 b2 : Byte) :
    ∃ rest, decode caps [op, b1, b2] = .ok (f.build b1 b2) rest := by
  simpa only [decode, h] using f.take_pair b1 b2

theorem decode_of_lookupOpcode_error {caps : Caps} {op : Byte} {why : Reject} (h : lookupOpcode caps op = .error why)
    (rest : List Byte) : decode caps (op :: rest) = .rejected why := by
  simp only [decode, h]

theorem Form.Fits.opcodeOf {f : Form} {op : Byte} (h : f.Fits op) (b1 b2 : Byte) : opcodeOf (f.build b1 b2) = op := by
  rw [Sys2Proof.opcodeOf, h.encode]; rfl

theorem Form.Fits.op1 {f : Form} {op : Byte} (h : f.Fits op) (b1 b2 : Byte) (hf : 2 ≤ f.lastOperandCycle) :
    (f.build b1 b2).op1 = b1 := by
  rw [Instr.op1, h.encode]
  cases f with
  | f1 i => simp [Form.lastOperandCycle] at hf
  | f2 mk => rfl
  | f3 mk => rfl

theorem Form.Fits.op2 {f : Form} {op : Byte} (h : f.Fits op) (b1 b2 : Byte) (hf : 3 ≤ f.lastOperandCycle) :
    (f.build b1 b2).op2 = b2 := by
  rw [Instr.op2, h.encode]
  cases f with
  | f1 i => simp [Form.lastOperandCycle] at hf
  | f2 mk => simp [Form.lastOperandCycle] at hf
  | f3 mk => rfl

end Sys2Proof

namespace Sys2Proof.Machine

/-! ## The boundary -/

/-- The instruction a slot builds from the bytes after PC. -/
def State.instrAt (s : State) (f : Form) : Instr :=
  f.build (s.memRead (s.pc + 1#16)) (s.memRead (s.pc + 2#16))

theorem fetchExecute_ok {s : State} {f : Form} (h : lookupOpcode s.cfg.caps (s.memRead s.pc) = .ok f) :
    fetchExecute s = exec (s.instrAt f) s := by
  obtain ⟨rest, hd⟩ := decode_of_lookupOpcode h (s.memRead (s.pc + 1#16)) (s.memRead (s.pc + 2#16))
  simp only [fetchExecute, streamBytes, hd, State.instrAt]

theorem fetchExecute_error {s : State} {why : Reject} (h : lookupOpcode s.cfg.caps (s.memRead s.pc) = .error why) :
    fetchExecute s = .next (s.decodeErrorCycle (s.memRead s.pc)) := by
  simp only [fetchExecute, streamBytes, decode_of_lookupOpcode_error h]

/-- After the fetch cycle the operand bytes of the instruction fetched are ahead in memory. -/
theorem operandsAt_fetchCycle {s : State} {f : Form} {op : Byte} (h : f.Fits op) :
    OperandsAt (s.instrAt f) (program (f.build 0x00#8 0x00#8)) (s.fetchCycle op) := by
  have hL := h.lastOperandCycle
  refine ⟨by simp, by simp, fun _ hf => ?_, fun _ hs => ?_, fun ht => ?_⟩
  · rw [State.instrAt, h.op1 _ _ (by omega)]; simp [State.memRead]
  · rw [State.instrAt, h.op2 _ _ (by omega)]; simp [State.memRead]
  · simp at ht

/-- Running a fetched instruction is its fetch cycle and the cycles of the program the tick finds by IR. -/
theorem fetchExecute_eq_runCycles {s : State} {f : Form} (h : lookupOpcode s.cfg.caps (s.memRead s.pc) = .ok f) :
    fetchExecute s = .next (runCycles cycleBound (program (f.build 0x00#8 0x00#8)) memoryStream
      (s.fetchCycle (s.memRead s.pc))) := by
  have hf := opcodeForm_fits (opcodeForm_of_lookupOpcode h)
  rw [fetchExecute_ok h, exec_eq_runInstr, runInstr, State.instrAt, hf.opcodeOf, hf.program]
  exact congrArg _ ((operandsAt_fetchCycle hf).runCycles_eq cycleBound)

theorem runningProgram_fetchCycle {s : State} {op : Byte} {f : Form} (h : lookupOpcode s.cfg.caps op = .ok f) :
    runningProgram (s.fetchCycle op) = some (program (f.build 0x00#8 0x00#8)) := by
  simp [runningProgram, programOf, h]

/-- From a boundary with its inputs latched: the first tick and those after it give what the step gives. -/
theorem ticksToBoundary_eq_boundaryStep {s u : State} (h : tick s = .next (boundaryTick u)) (hr : u.run = .running) :
    ticksToBoundary cycleBound s = boundaryStep u := by
  rw [cycleBound, ticksToBoundary_succ 7 h]
  cases hk : recognise u with
  | some k =>
    have hb : boundaryTick u = u.interruptStart k := by simp [boundaryTick, hk]
    have hrun : (u.interruptStart k).run = .running := by simp [State.interruptStart, hr]
    have ht : (u.interruptStart k).t ≠ 1 := by simp [State.interruptStart]
    rw [hb, if_pos ⟨hrun, ht⟩, boundaryStep_interrupt hk, runInterrupt,
      ticksToBoundary_mid 7 hrun ht (p := .interrupt k) (by simp [runningProgram, State.interruptStart]), cycleBound]
  | none =>
    rw [boundaryStep_fetch hk]
    cases hl : lookupOpcode u.cfg.caps (u.memRead u.pc) with
    | error why =>
      have hb : boundaryTick u = u.decodeErrorCycle (u.memRead u.pc) := by simp [boundaryTick, hk, hl]
      rw [hb, if_neg (by simp), fetchExecute_error hl]
    | ok f =>
      have hb : boundaryTick u = u.fetchCycle (u.memRead u.pc) := by simp [boundaryTick, hk, hl]
      have hrun : (u.fetchCycle (u.memRead u.pc)).run = .running := by simp [hr]
      have ht : (u.fetchCycle (u.memRead u.pc)).t ≠ 1 := by simp
      rw [hb, if_pos ⟨hrun, ht⟩, fetchExecute_eq_runCycles hl,
        ticksToBoundary_mid 7 hrun ht (runningProgram_fetchCycle hl), cycleBound]

theorem ticksToBoundary_idle {s t : State} (k : Nat) (h : tick s = .next t) (hr : t.run ≠ .running) :
    ticksToBoundary (k + 1) s = .next t := by
  rw [ticksToBoundary_succ k h, if_neg (fun hc => hr hc.1)]

/-- Settles O52, by the mode of the engine and the cycle that the state is in. -/
theorem ticksComposeToTheStep : Obligations.TicksComposeToTheStep := by
  unfold Obligations.TicksComposeToTheStep
  intro s
  cases hr : s.run with
  | faulted op a => rw [step_faulted hr, ticksToBoundary_fault 8 (tick_faulted hr)]
  | stopped => rw [step_stopped hr, ticksToBoundary_idle 7 (tick_stopped hr) (by simp [hr])]
  | waiting =>
    cases hw : woken s.latchInputs with
    | false => rw [step_waiting_idle hr hw, ticksToBoundary_idle 7 (tick_waiting_idle hr hw) (by simp [hr])]
    | true =>
      rw [step_waiting_woken hr hw]
      exact ticksToBoundary_eq_boundaryStep (tick_waiting_woken hr hw) rfl
  | running =>
    by_cases ht : s.t = 1
    · rw [step_boundary hr ht]
      exact ticksToBoundary_eq_boundaryStep (tick_boundary hr ht) (by simp [hr])
    · rw [step_resume hr ht]
      exact ticksToBoundary_eq_resume hr ht

end Sys2Proof.Machine
end

section
/-! PROOF of O58, O59, O11, O12 and O56: what an instruction changes of the state and what it leaves (10_state.md R20 to
R35), the flags, and reset. A micro-op program has one effect on the registers, the memory, `run` and `svc`
(`MicroProgram.Effect`), whichever way its cycles go; over the 212 programs that effect is a table (`regsFrame`). -/

namespace Sys2Proof.Machine

/-! ## The effect of a program -/

/-- The registers a program leaves of `r`, where `m` is the byte it reads: the operand, the byte at the effective
address, or the first byte pulled. -/
def MicroProgram.regs (m : Byte) (r : Regs) : MicroProgram → Regs
  | .imp op => op r
  | .imm _ op => op m r
  | .read _ _ op => op m r
  | .modify _ _ _ fl => { r with p := fl m r }
  | .pull op => op m { r with sp := r.sp + 1#8 }
  | .push _ => { r with sp := r.sp - 1#8 }
  | .jsr => { r with sp := r.sp - 2#8 }
  | .rts => { r with sp := r.sp + 2#8 }
  | .rti => { r with sp := r.sp + 3#8, p := unpackP m }
  | .brk => { r with sp := r.sp - 3#8, p := trapFlags r.p }
  | .interrupt _ => { r with sp := r.sp - 3#8, p := trapFlags r.p }
  | .write .. => r
  | .branch _ => r
  | .bitBranch .. => r
  | .jmpAbs => r
  | .jmpInd => r
  | .jmpIax => r
  | .halt _ => r

/-- Whether a program has a write cycle. -/
def MicroProgram.writes : MicroProgram → Bool
  | .write .. => true
  | .modify .. => true
  | .push _ => true
  | .jsr => true
  | .brk => true
  | .interrupt _ => true
  | _ => false

/-- The mode of the engine after a program (10_state.md R34). -/
def MicroProgram.runAfter (run : RunMode) : MicroProgram → RunMode
  | .halt mode => mode
  | _ => run

/-- The label `svc` after a program (10_state.md R35). -/
def MicroProgram.svcAfter (svc : Svc) : MicroProgram → Svc
  | .rti => .running
  | .interrupt k => intSvc k
  | _ => svc

/-- What a program makes of the registers, the memory, `run` and `svc` of `s`. -/
structure MicroProgram.Effect (p : MicroProgram) (s t : State) : Prop where
  regs : ∃ m, t.r = p.regs m s.r
  mem : t.mem = s.mem ∨ p.writes = true
  run : t.run = p.runAfter s.run
  svc : t.svc = p.svcAfter s.svc

theorem Leaves.effect {p : MicroProgram} {s t : State} {pc : Word} {mem : Memory} {h : HostView} {n : Nat} (m : Byte)
    (hl : Leaves s t (p.regs m s.r) pc mem (p.runAfter s.run) (p.svcAfter s.svc) h n)
    (hm : mem = s.mem ∨ p.writes = true) : p.Effect s t :=
  ⟨⟨m, hl.regs⟩, hl.mem ▸ hm, hl.run, hl.svc⟩

theorem runInstr_imm_effect (s : State) (i : Instr) (decimal : Bool) (op : Byte → Regs → Regs) :
    ∃ t, runInstr i (.imm decimal op) s = .next t ∧ (MicroProgram.imm decimal op).Effect s t := by
  cases hd : decimal && s.r.p.d with
  | false =>
    obtain ⟨t, h, hl, -⟩ := runInstr_imm s i decimal op hd
    exact ⟨t, h, hl.effect i.op1 (.inl rfl)⟩
  | true =>
    obtain ⟨rfl, hp⟩ := Bool.and_eq_true_iff.mp hd
    obtain ⟨t, h, hl, -⟩ := runInstr_imm_decimal s i op hp
    exact ⟨t, h, hl.effect i.op1 (.inl rfl)⟩

theorem runInstr_branch_effect (s : State) (i : Instr) (cond : Flags → Bool) :
    ∃ t, runInstr i (.branch cond) s = .next t ∧ (MicroProgram.branch cond).Effect s t := by
  cases hc : cond s.r.p with
  | false =>
    obtain ⟨t, h, hl, -⟩ := runInstr_branch_not_taken s i cond hc
    exact ⟨t, h, hl.effect 0 (.inl rfl)⟩
  | true =>
    by_cases hp : hiByte (s.pc + 2#16 + i.op1.signExtend 16) = hiByte (s.pc + 2#16)
    · obtain ⟨t, h, hl, -⟩ := runInstr_branch_taken s i cond hc hp
      exact ⟨t, h, hl.effect 0 (.inl rfl)⟩
    · obtain ⟨t, h, hl, -⟩ := runInstr_branch_crossed s i cond hc hp
      exact ⟨t, h, hl.effect 0 (.inl rfl)⟩

theorem runInstr_bitBranch_effect (s : State) (i : Instr) (n : Nat) (sense : Bool) :
    ∃ t, runInstr i (.bitBranch n sense) s = .next t ∧ (MicroProgram.bitBranch n sense).Effect s t := by
  by_cases hc : (readByte s.cfg.memcfg s.mem (wordOf 0x00#8 i.op1)).getLsbD n = sense
  · by_cases hp : hiByte (s.pc + 3#16 + i.op2.signExtend 16) = hiByte (s.pc + 3#16)
    · obtain ⟨t, h, hl, -⟩ := runInstr_bitBranch_taken s i n sense hc hp
      exact ⟨t, h, hl.effect 0 (.inl rfl)⟩
    · obtain ⟨t, h, hl, -⟩ := runInstr_bitBranch_crossed s i n sense hc hp
      exact ⟨t, h, hl.effect 0 (.inl rfl)⟩
  · obtain ⟨t, h, hl, -⟩ := runInstr_bitBranch_not_taken s i n sense hc
    exact ⟨t, h, hl.effect 0 (.inl rfl)⟩

/-- Every program an instruction can have runs to its effect. -/
theorem runInstr_effect (s : State) (i : Instr) {p : MicroProgram} (hp : ∀ k, p ≠ .interrupt k) :
    ∃ t, runInstr i p s = .next t ∧ p.Effect s t := by
  cases p with
  | imp op => obtain ⟨t, h, hl, -⟩ := runInstr_imp s i op; exact ⟨t, h, hl.effect 0 (.inl rfl)⟩
  | imm decimal op => exact runInstr_imm_effect s i decimal op
  | read m decimal op =>
    obtain ⟨t, h, hl, -⟩ := runInstr_read s i m decimal op; exact ⟨t, h, hl.effect _ (.inl rfl)⟩
  | write m v => obtain ⟨t, h, hl, -⟩ := runInstr_write s i m v; exact ⟨t, h, hl.effect 0 (.inr rfl)⟩
  | modify m always res fl =>
    obtain ⟨t, h, hl, -⟩ := runInstr_modify s i m always res fl; exact ⟨t, h, hl.effect _ (.inr rfl)⟩
  | branch cond => exact runInstr_branch_effect s i cond
  | bitBranch n sense => exact runInstr_bitBranch_effect s i n sense
  | jmpAbs => obtain ⟨t, h, hl, -⟩ := runInstr_jmpAbs s i; exact ⟨t, h, hl.effect 0 (.inl rfl)⟩
  | jmpInd => obtain ⟨t, h, hl, -⟩ := runInstr_jmpInd s i; exact ⟨t, h, hl.effect 0 (.inl rfl)⟩
  | jmpIax => obtain ⟨t, h, hl, -⟩ := runInstr_jmpIax s i; exact ⟨t, h, hl.effect 0 (.inl rfl)⟩
  | jsr => obtain ⟨t, h, hl, -⟩ := runInstr_jsr s i; exact ⟨t, h, hl.effect 0 (.inr rfl)⟩
  | rts => obtain ⟨t, h, hl, -⟩ := runInstr_rts s i; exact ⟨t, h, hl.effect 0 (.inl rfl)⟩
  | rti => obtain ⟨t, h, hl, -⟩ := runInstr_rti s i; exact ⟨t, h, hl.effect _ (.inl rfl)⟩
  | brk => obtain ⟨t, h, hl, -⟩ := runInstr_brk s i; exact ⟨t, h, hl.effect 0 (.inr rfl)⟩
  | push v => obtain ⟨t, h, hl, -⟩ := runInstr_push s i v; exact ⟨t, h, hl.effect 0 (.inr rfl)⟩
  | pull op => obtain ⟨t, h, hl, -⟩ := runInstr_pull s i op; exact ⟨t, h, hl.effect _ (.inl rfl)⟩
  | halt mode => obtain ⟨t, h, hl, -⟩ := runInstr_halt s i mode; exact ⟨t, h, hl.effect 0 (.inl rfl)⟩
  | interrupt k => exact absurd rfl (hp k)

/-- An interrupt sequence runs to its effect too (60_exceptions.md R349). -/
theorem runInterrupt_effect (s : State) (k : IntKind) : (MicroProgram.interrupt k).Effect s (runInterrupt k s) := by
  obtain ⟨hl, -⟩ := runInterrupt_spec s k
  exact hl.effect 0 (.inr rfl)

/-- The template of an instruction's program is the one its row of the opcode table names (30_encoding.md R85). -/
theorem program_template (i : Instr) : (program i).template = some i.template := by
  cases i <;> rfl

theorem program_ne_interrupt (i : Instr) (k : IntKind) : program i ≠ .interrupt k := by
  intro h
  have ht := program_template i
  rw [h] at ht
  cases ht

/-- What an instruction's next state has of the registers, the memory, `run` and `svc`. -/
theorem exec_effect {i : Instr} {s t : State} (h : exec i s = .next t) : (program i).Effect s t := by
  obtain ⟨t', ht', he⟩ := runInstr_effect s i (program_ne_interrupt i)
  rw [exec_eq_runInstr, ht'] at h
  cases h
  exact he

/-! ## The fields of the registers -/

/-- In every mode ADC writes A, N, V, Z and C alone (43_alu.md R221, R222). -/
theorem opAdc_eq_freeWrite (m : Byte) (r : Regs) : ∃ o, opAdc m r = freeWrite o r := by
  unfold opAdc
  split_ifs
  · exact ⟨⟨_, _, _, _, _⟩, rfl⟩
  · exact ⟨_, rfl⟩
  · exact ⟨⟨_, _, _, _, _⟩, rfl⟩

/-- In every mode SBC writes A, N, V, Z and C alone (43_alu.md R223, R224). -/
theorem opSbc_eq_freeWrite (m : Byte) (r : Regs) : ∃ o, opSbc m r = freeWrite o r := by
  unfold opSbc
  split_ifs
  · exact ⟨⟨_, _, _, _, _⟩, rfl⟩
  · exact ⟨_, rfl⟩
  · exact ⟨⟨_, _, _, _, _⟩, rfl⟩

/-- The templates whose instructions move S (10_state.md R23). -/
def stackTemplates : List Template := [.push, .pull, .jsr, .rts, .rti, .brk]

/-- The opcodes of ADC, SBC, BIT on memory, CLV, PLP and RTI, which write V (10_state.md R27). -/
def overflowOpcodes : List Byte :=
  [0x69#8, 0x65#8, 0x75#8, 0x6D#8, 0x7D#8, 0x79#8, 0x61#8, 0x71#8, 0x72#8] ++
  [0xE9#8, 0xE5#8, 0xF5#8, 0xED#8, 0xFD#8, 0xF9#8, 0xE1#8, 0xF1#8, 0xF2#8] ++
  [0x24#8, 0x34#8, 0x2C#8, 0x3C#8, 0xB8#8, 0x28#8, 0x40#8]

/-- From `r` to `r'` the instruction keeps D, I, V, X, Y and S where the rule does not list it as one that writes them
(10_state.md R21, R22, R23, R27). A field that is not given is kept by computation. -/
structure RegsFrame (i : Instr) (r r' : Regs) : Prop where
  flagD : r'.p.d = r.p.d ∨ opcodeOf i ∈ [0xF8#8, 0xD8#8, 0x28#8, 0x40#8, 0x00#8] := by exact .inl rfl
  flagI : r'.p.i = r.p.i ∨ opcodeOf i ∈ [0x78#8, 0x58#8, 0x28#8, 0x40#8, 0x00#8] := by exact .inl rfl
  flagV : r'.p.v = r.p.v ∨ opcodeOf i ∈ overflowOpcodes := by exact .inl rfl
  x : r'.x = r.x ∨ opcodeOf i ∈
      [0xA2#8, 0xA6#8, 0xB6#8, 0xAE#8, 0xBE#8, 0xFA#8, 0xAA#8, 0xBA#8, 0xE8#8, 0xCA#8] := by exact .inl rfl
  y : r'.y = r.y ∨ opcodeOf i ∈
      [0xA0#8, 0xA4#8, 0xB4#8, 0xAC#8, 0xBC#8, 0x7A#8, 0xA8#8, 0xC8#8, 0x88#8] := by exact .inl rfl
  sp : r'.sp = r.sp ∨ opcodeOf i = 0x9A#8 ∨ i.template ∈ stackTemplates := by exact .inl rfl

theorem RegsFrame.of_freeWrite {i : Instr} {r r' : Regs} (h : ∃ o, r' = freeWrite o r)
    (hv : opcodeOf i ∈ overflowOpcodes) : RegsFrame i r r' := by
  obtain ⟨o, rfl⟩ := h
  exact { flagV := .inr hv }

/-- The table of what each instruction writes of D, I, V, X, Y and S; what no case names writes none of them. -/
theorem regsFrame (i : Instr) (m : Byte) (r : Regs) : RegsFrame i r ((program i).regs m r) := by
  cases i
  case adcImm | adcZp | adcZpx | adcAbs | adcAbx | adcAby | adcIzx | adcIzy | adcIzp =>
    exact .of_freeWrite (opAdc_eq_freeWrite m r) (by simp [opcodeOf, encode, overflowOpcodes])
  case sbcImm | sbcZp | sbcZpx | sbcAbs | sbcAbx | sbcAby | sbcIzx | sbcIzy | sbcIzp =>
    exact .of_freeWrite (opSbc_eq_freeWrite m r) (by simp [opcodeOf, encode, overflowOpcodes])
  case bitZp | bitZpx | bitAbs | bitAbx | clv =>
    exact { flagV := .inr (by simp [opcodeOf, encode, overflowOpcodes]) }
  case sed | cld => exact { flagD := .inr (by decide) }
  case sei | cli => exact { flagI := .inr (by decide) }
  case ldxImm | ldxZp | ldxZpy | ldxAbs | ldxAby | tax | tsx | inx | dex =>
    exact { x := .inr (by simp [opcodeOf, encode]) }
  case ldyImm | ldyZp | ldyZpx | ldyAbs | ldyAbx | tay | iny | dey => exact { y := .inr (by simp [opcodeOf, encode]) }
  case txs => exact { sp := .inr (.inl rfl) }
  case pha | phx | phy | php | pla | jsr | rts =>
    exact { sp := .inr (.inr (by simp [Instr.template, stackTemplates])) }
  case plx => exact { x := .inr (by decide), sp := .inr (.inr (by decide)) }
  case ply => exact { y := .inr (by decide), sp := .inr (.inr (by decide)) }
  case plp | rti =>
    exact { flagD := .inr (by decide), flagI := .inr (by decide), flagV := .inr (by decide),
            sp := .inr (.inr (by decide)) }
  case brk => exact { flagD := .inr (by decide), flagI := .inr (by decide), sp := .inr (.inr (by decide)) }
  all_goals exact {}

/-! ## The instructions that write no flag -/

/-- The templates whose instructions write no flag (10_state.md R27). -/
def flaglessTemplates : List Template :=
  [.zpW, .zpiW, .absW, .abiW, .izxW, .izyW, .izpW, .push, .jmpAbs, .jmpInd, .jmpIax, .jsr, .rts, .rel, .zprel, .halt]

theorem MicroProgram.regs_p_of_flagless {p : MicroProgram} {tp : Template} (h : p.template = some tp)
    (hf : tp ∈ flaglessTemplates) (m : Byte) (r : Regs) : (p.regs m r).p = r.p := by
  cases p
  case write | branch | bitBranch | jmpAbs | jmpInd | jmpIax | jsr | rts | push | halt => rfl
  case read mode _ _ => cases mode <;> cases h <;> exact absurd hf (by decide)
  case modify mode always _ _ => cases mode <;> cases always <;> cases h <;> exact absurd hf (by decide)
  all_goals cases h <;> exact absurd hf (by decide)

/-- TXS, NOP, RMB and SMB, which share their templates with instructions that write flags, write none. -/
theorem regs_p_or_opcode (i : Instr) (m : Byte) (r : Regs) : ((program i).regs m r).p = r.p ∨
    (opcodeOf i ≠ 0x9A#8 ∧ opcodeOf i ≠ 0xEA#8 ∧ opcodeOf i &&& 0x0F#8 ≠ 0x07#8) := by
  cases i
  case txs | nop | rmb0 | rmb1 | rmb2 | rmb3 | rmb4 | rmb5 | rmb6 | rmb7 | smb0 | smb1 | smb2 | smb3 | smb4 | smb5 |
      smb6 | smb7 => exact .inl rfl
  all_goals exact .inr (by simp [opcodeOf, encode])

/-- Settles O58: the effect of the instruction's program, and for P its template and its opcode. -/
theorem flagsChangeOnlyByTheListedInstructions : Obligations.FlagsChangeOnlyByTheListedInstructions := by
  unfold Obligations.FlagsChangeOnlyByTheListedInstructions
  intro i s t h
  obtain ⟨m, hr⟩ := (exec_effect h).regs
  have hframe := regsFrame i m s.r
  rw [hr]
  refine ⟨hframe.flagD.resolve_left, hframe.flagI.resolve_left, hframe.flagV.resolve_left,
    fun hp => ⟨fun hf => ?_, ?_⟩⟩
  · exact hp (MicroProgram.regs_p_of_flagless (program_template i) hf m s.r)
  · exact (regs_p_or_opcode i m s.r).resolve_left hp

/-! ## Memory, `run` and `svc` -/

/-- The templates with a write cycle (20_memory.md R57). -/
def writingTemplates : List Template :=
  [.zpW, .zpiW, .absW, .abiW, .izxW, .izyW, .izpW, .zpM, .zpxM, .absM, .abxM, .abxM7, .push, .jsr, .brk]

theorem MicroProgram.template_of_writes {p : MicroProgram} {tp : Template} (h : p.template = some tp)
    (hw : p.writes = true) : tp ∈ writingTemplates := by
  cases p
  case write mode _ => cases mode <;> cases h <;> decide
  case modify mode always _ _ => cases mode <;> cases always <;> cases h <;> decide
  case push | jsr | brk => cases h; decide
  case interrupt => cases h
  all_goals cases hw

theorem runAfter_program (i : Instr) (run : RunMode) : (program i).runAfter run = run ∨
    (i = .wai ∧ (program i).runAfter run = .waiting) ∨ (i = .stp ∧ (program i).runAfter run = .stopped) := by
  cases i
  case wai => exact .inr (.inl ⟨rfl, rfl⟩)
  case stp => exact .inr (.inr ⟨rfl, rfl⟩)
  all_goals exact .inl rfl

theorem svcAfter_program (i : Instr) (svc : Svc) : (program i).svcAfter svc = svc ∨
    (i = .rti ∧ (program i).svcAfter svc = .running) := by
  cases i
  case rti => exact .inr ⟨rfl, rfl⟩
  all_goals exact .inl rfl

/-- Settles O59: the effect of the instruction's program, field by field. -/
theorem stateChangesOnlyByTheListedInstructions : Obligations.StateChangesOnlyByTheListedInstructions := by
  unfold Obligations.StateChangesOnlyByTheListedInstructions
  intro i s t h
  obtain ⟨⟨m, hr⟩, hmem, hrun, hsvc⟩ := exec_effect h
  have hframe := regsFrame i m s.r
  rw [hr, hrun, hsvc]
  exact ⟨hframe.x.resolve_left, hframe.y.resolve_left, hframe.sp.resolve_left,
    fun hm => MicroProgram.template_of_writes (program_template i) (hmem.resolve_left hm),
    (runAfter_program i s.run).resolve_left, (svcAfter_program i s.svc).resolve_left⟩

/-! ## Flags -/

/-- Settles O11: both sides are the definition of `setNZ`. -/
theorem setNZWritesTwoFlags : Obligations.SetNZWritesTwoFlags := by
  unfold Obligations.SetNZWritesTwoFlags
  intro v p
  rfl

/-- The bits of the packed status (10_state.md R26). -/
theorem getLsbD_packP (p : Flags) (b : Bool) :
    (packP p b).getLsbD 7 = p.n ∧ (packP p b).getLsbD 6 = p.v ∧ (packP p b).getLsbD 5 = true ∧
    (packP p b).getLsbD 4 = b ∧ (packP p b).getLsbD 3 = p.d ∧ (packP p b).getLsbD 2 = p.i ∧
    (packP p b).getLsbD 1 = p.z ∧ (packP p b).getLsbD 0 = p.c := by
  obtain ⟨n, v, d, i, z, c⟩ := p
  revert n v d i z c b
  decide

/-- Pulling what was pushed gives the flags back, whatever B was (10_state.md R28). -/
theorem unpackP_packP (p : Flags) (b : Bool) : unpackP (packP p b) = p := by
  obtain ⟨hn, hv, -, -, hd, hi, hz, hc⟩ := getLsbD_packP p b
  simp only [unpackP, bitOf, hn, hv, hd, hi, hz, hc]

/-- Settles O12, from the bits of the packed byte. -/
theorem packedStatusBitPlaces : Obligations.PackedStatusBitPlaces := by
  unfold Obligations.PackedStatusBitPlaces
  exact ⟨getLsbD_packP, fun _ => rfl, fun p b => ⟨unpackP_packP p b, rfl, rfl⟩⟩

/-! ## Reset -/

/-- PC after reset is the word at the reset vector, low byte first (70_reset_and_hazards.md R380). -/
theorem resetWith_pc (cfg : Config) (image : Memory) (init : Init) :
    (State.resetWith cfg image init).pc =
      (State.resetWith cfg image init).memRead 0xFFFD#16 ++ (State.resetWith cfg image init).memRead 0xFFFC#16 :=
  rfl

/-- Settles O56: reset writes each value out, and PC is the word at the vector. -/
theorem resetLeavesTheListedValues : Obligations.ResetLeavesTheListedValues := by
  unfold Obligations.ResetLeavesTheListedValues
  intro cfg image init
  exact ⟨rfl, rfl, rfl, rfl, rfl, rfl, rfl, rfl, rfl, rfl, resetWith_pc cfg image init, rfl, rfl, rfl, rfl, rfl, rfl,
    rfl, rfl, rfl, rfl⟩

end Sys2Proof.Machine
end

section
/-! PROOF of O54 and O57, about every step (20_memory.md R51, R56, R69; 40_addressing_and_bus_cycles.md R110, R112). Of a
state only its ledger plays a part: memory, configuration, `cyc`, the records and `seq`. Each cycle is one bus access
(`OneCycle`, said once for every row of every program), a step is a sequence of cycles (`StepLedger`), and what one
cycle keeps a step keeps by induction. -/

namespace Sys2Proof.Machine

/-! ## One cycle -/

/-- The part of a state that its bus cycles account for. -/
structure Ledger where
  mem : Memory
  cfg : Config
  cyc : Nat
  bus : List BusCycle
  seq : Seq

/-- The named update of `seq`, as `State.withSeq`. -/
def Ledger.withSeq (v : Ledger) (q : Seq) : Ledger := { v with seq := q }

/-- The ledger of a state. -/
def State.ledger (s : State) : Ledger := { mem := s.mem, cfg := s.cfg, cyc := s.cyc, bus := s.bus, seq := s.seq }

@[simp] theorem State.ledger_withR (s : State) (r : Regs) : (s.withR r).ledger = s.ledger := rfl
@[simp] theorem State.ledger_withPc (s : State) (a : Word) : (s.withPc a).ledger = s.ledger := rfl
@[simp] theorem State.ledger_withLat (s : State) (l : Latches) : (s.withLat l).ledger = s.ledger := rfl
@[simp] theorem State.ledger_withT (s : State) (n : Nat) : (s.withT n).ledger = s.ledger := rfl
@[simp] theorem State.ledger_withRun (s : State) (m : RunMode) : (s.withRun m).ledger = s.ledger := rfl
@[simp] theorem State.ledger_withSvc (s : State) (v : Svc) : (s.withSvc v).ledger = s.ledger := rfl
@[simp] theorem State.ledger_withNmiPending (s : State) (b : Bool) : (s.withNmiPending b).ledger = s.ledger := rfl
@[simp] theorem State.ledger_withSeq (s : State) (q : Seq) : (s.withSeq q).ledger = s.ledger.withSeq q := rfl
@[simp] theorem State.ledger_more (s : State) : s.more.ledger = s.ledger := rfl
@[simp] theorem State.ledger_last (s : State) : s.last.ledger = s.ledger.withSeq .instr := rfl
@[simp] theorem State.ledger_latchInputs (s : State) : s.latchInputs.ledger = s.ledger := by simp [State.ledger]

/-- What one cycle does to the ledger: one BusCycle with the number `cyc`, and no change of memory but by a store under
the memory policy (20_memory.md R56, R57). -/
structure OneCycle (v w : Ledger) : Prop where
  mem : w.mem = v.mem ∨ ∃ a b, w.mem = storeByte v.cfg.memcfg v.mem a b
  cfg : w.cfg = v.cfg
  cyc : w.cyc = v.cyc + 1
  bus : ∃ b, w.bus = b :: v.bus ∧ b.cyc = v.cyc ∧ b.signalsOk
  seq : w.seq = v.seq ∨ w.seq = .instr

/-- The last cycle of a program ends it too. -/
@[simp] theorem OneCycle.withSeq_instr {v w : Ledger} (h : OneCycle v w) : OneCycle v (w.withSeq .instr) :=
  ⟨h.mem, h.cfg, h.cyc, h.bus, .inr rfl⟩

/-- The cycle that begins an interrupt sequence is accounted from its `seq` on (60_exceptions.md R349). -/
theorem OneCycle.withSeq {v w : Ledger} (h : OneCycle v w) (q : Seq) : OneCycle (v.withSeq q) (w.withSeq q) :=
  ⟨h.mem, h.cfg, h.cyc, h.bus, .inl rfl⟩

/-- A read cycle that is no vector read. -/
@[simp] theorem oneCycle_readCycle (s : State) (a : Word) (b : Byte) (sync : Bool) :
    OneCycle s.ledger (s.readCycle a b sync false).ledger := by
  constructor <;> simp [State.ledger, BusCycle.signalsOk]

@[simp] theorem oneCycle_busRead (s : State) (a : Word) : OneCycle s.ledger (s.busRead a).ledger :=
  oneCycle_readCycle s a _ false

@[simp] theorem oneCycle_dummyRead (s : State) (d : Dummy) (a : Word) : OneCycle s.ledger (s.dummyRead d a).ledger :=
  oneCycle_busRead s _

@[simp] theorem oneCycle_fetchByte (s : State) (b : Byte) : OneCycle s.ledger (s.fetchByte b).ledger :=
  oneCycle_readCycle s s.pc b false

theorem oneCycle_vectorRead (s : State) {a : Word} (ha : a ∈ [0xFFFA#16, 0xFFFB#16, 0xFFFE#16, 0xFFFF#16]) :
    OneCycle s.ledger (s.vectorRead a).ledger := by
  constructor <;> simp [State.ledger, BusCycle.signalsOk]
  simpa using ha

theorem oneCycle_busWrite (s : State) (a : Word) (b : Byte) : OneCycle s.ledger (s.busWrite a b).ledger := by
  refine ⟨.inr ⟨a, b, ?_⟩, ?_, ?_, ?_, ?_⟩ <;> simp [State.ledger, BusCycle.signalsOk]

@[simp] theorem oneCycle_push (s : State) (b : Byte) : OneCycle s.ledger (s.push b).ledger :=
  oneCycle_busWrite s _ b

/-! ## Every row of every program -/

theorem State.trapEntryRow_oneCycle (s : State) {vec : Word} (b : Bool) (h : vec = 0xFFFA#16 ∨ vec = 0xFFFE#16) :
    OneCycle s.ledger (s.trapEntryRow vec b).ledger := by
  have hlo : OneCycle s.ledger (s.vectorRead vec).ledger :=
    oneCycle_vectorRead s (by rcases h with rfl | rfl <;> decide)
  have hhi : OneCycle s.ledger (s.vectorRead (vec + 1#16)).ledger :=
    oneCycle_vectorRead s (by rcases h with rfl | rfl <;> decide)
  unfold State.trapEntryRow
  split <;> simp [hlo, hhi]

theorem State.trapReturnRow_oneCycle (s : State) : OneCycle s.ledger s.trapReturnRow.ledger := by
  unfold State.trapReturnRow; split <;> simp

theorem State.rowAbsIndexing_oneCycle (s : State) (always : Bool) :
    OneCycle s.ledger (s.rowAbsIndexing always).ledger := by
  unfold State.rowAbsIndexing; split_ifs <;> simp

theorem State.rowIzyIndexing_oneCycle (s : State) (always : Bool) :
    OneCycle s.ledger (s.rowIzyIndexing always).ledger := by
  unfold State.rowIzyIndexing; split_ifs <;> simp

theorem State.addressRow_oneCycle (s : State) (m : DataMode) (always : Bool) (b : Byte) :
    OneCycle s.ledger (s.addressRow m always b).ledger := by
  cases m <;> simp only [State.addressRow]
  case zp => simp [State.rowZpa]
  all_goals
    split <;>
      simp [State.rowZpa, State.rowAdl, State.rowAdhEa, State.rowAdhIndexed, State.rowPointerLo, State.rowPointerHi,
        State.rowPointerHiY, State.rowAbsIndexing_oneCycle, State.rowIzyIndexing_oneCycle]

theorem State.immRow_oneCycle (s : State) (decimal : Bool) (op : Byte → Regs → Regs) (b : Byte) :
    OneCycle s.ledger (s.immRow decimal op b).ledger := by
  unfold State.immRow
  split
  · split_ifs <;> simp
  · simp

theorem State.readRow_oneCycle (s : State) (m : DataMode) (decimal : Bool) (op : Byte → Regs → Regs) (b : Byte) :
    OneCycle s.ledger (s.readRow m decimal op b).ledger := by
  unfold State.readRow State.dataReadRow State.decimalRow
  split_ifs <;> simp [State.addressRow_oneCycle]

theorem State.writeRow_oneCycle (s : State) (m : DataMode) (v : Regs → Byte) (b : Byte) :
    OneCycle s.ledger (s.writeRow m v b).ledger := by
  unfold State.writeRow
  split_ifs
  · exact s.addressRow_oneCycle m true b
  · exact (oneCycle_busWrite s _ _).withSeq_instr

theorem State.modifyRow_oneCycle (s : State) (m : DataMode) (always : Bool) (res : Byte → Regs → Byte)
    (fl : Byte → Regs → Flags) (b : Byte) : OneCycle s.ledger (s.modifyRow m always res fl b).ledger := by
  unfold State.modifyRow
  split_ifs
  · exact s.addressRow_oneCycle m always b
  · exact oneCycle_busRead s _
  · exact oneCycle_dummyRead s _ _
  · exact (oneCycle_busWrite s _ _).withSeq_instr

theorem State.takenRow_oneCycle (s : State) : OneCycle s.ledger s.takenRow.ledger := by
  unfold State.takenRow; split_ifs <;> simp

theorem State.takenCrossRow_oneCycle (s : State) : OneCycle s.ledger s.takenCrossRow.ledger := by
  simp [State.takenCrossRow]

theorem State.branchRow_oneCycle (s : State) (cond : Flags → Bool) (b : Byte) :
    OneCycle s.ledger (s.branchRow cond b).ledger := by
  unfold State.branchRow
  split
  · split_ifs <;> simp
  · exact s.takenRow_oneCycle
  · exact s.takenCrossRow_oneCycle

theorem State.bitBranchRow_oneCycle (s : State) (n : Nat) (sense : Bool) (b : Byte) :
    OneCycle s.ledger (s.bitBranchRow n sense b).ledger := by
  unfold State.bitBranchRow
  split
  case h_4 => split_ifs <;> simp
  case h_5 => exact s.takenRow_oneCycle
  case h_6 => exact s.takenCrossRow_oneCycle
  all_goals simp [State.rowZpa]

theorem State.jumpPointerRow_oneCycle (s : State) : OneCycle s.ledger s.jumpPointerRow.ledger := by
  unfold State.jumpPointerRow; split <;> simp

/-- Every cycle of every program but the first of an interrupt sequence, which sets `seq`. -/
theorem cycleRow_oneCycle (p : MicroProgram) (b : Byte) (s : State) (h : s.t ≠ 1) :
    OneCycle s.ledger (cycleRow p b s).ledger := by
  cases p with
  | imp op => simp [cycleRow, State.impRow]
  | imm decimal op => exact s.immRow_oneCycle decimal op b
  | read m decimal op => exact s.readRow_oneCycle m decimal op b
  | write m v => exact s.writeRow_oneCycle m v b
  | modify m always res fl => exact s.modifyRow_oneCycle m always res fl b
  | branch cond => exact s.branchRow_oneCycle cond b
  | bitBranch n sense => exact s.bitBranchRow_oneCycle n sense b
  | jmpAbs => simp only [cycleRow, State.jmpAbsRow]; split <;> simp [State.rowAdl]
  | jmpInd =>
    simp only [cycleRow, State.jmpIndRow]
    split <;> simp [State.rowAdl, State.rowAdhEa, State.jumpPointerRow_oneCycle]
  | jmpIax =>
    simp only [cycleRow, State.jmpIaxRow]
    split <;> simp [State.rowAdl, State.jumpPointerRow_oneCycle]
  | jsr => simp only [cycleRow, State.jsrRow]; split <;> simp [State.rowAdl]
  | rts => simp only [cycleRow, State.rtsRow]; split <;> simp
  | rti => exact s.trapReturnRow_oneCycle
  | brk =>
    simp only [cycleRow, State.brkRow]
    split
    · simp
    · exact s.trapEntryRow_oneCycle true (.inr rfl)
  | push v => simp only [cycleRow, State.pushRow]; split <;> simp
  | pull op => simp only [cycleRow, State.pullRow]; split <;> simp
  | halt mode => simp only [cycleRow, State.haltRow]; split <;> simp
  | interrupt k =>
    simp only [cycleRow, State.interruptRow]
    split
    · exact absurd ‹s.t = 1› h
    · simp
    · exact s.trapEntryRow_oneCycle false (by cases k <;> simp [intVector])

theorem nextCycle_oneCycle (p : MicroProgram) (stream : State → Byte) (s : State) (h : s.t ≠ 1) :
    OneCycle s.ledger (nextCycle p stream s).ledger := by
  simpa [nextCycle] using cycleRow_oneCycle p (stream s.latchInputs) s.latchInputs (by simpa using h)

theorem State.fetchCycle_oneCycle (s : State) (op : Byte) : OneCycle s.ledger (s.fetchCycle op).ledger := by simp

theorem State.decodeErrorCycle_oneCycle (s : State) (op : Byte) : OneCycle s.ledger (s.decodeErrorCycle op).ledger := by
  simp [State.decodeErrorCycle]

theorem State.interruptStart_oneCycle (s : State) (k : IntKind) :
    OneCycle (s.ledger.withSeq (.int k)) (s.interruptStart k).ledger := by
  simpa [State.interruptStart, State.dummySyncRead] using (oneCycle_readCycle s _ _ true).withSeq (.int k)

/-! ## The cycles of a step -/

/-- Cycles one after another, none among them. -/
abbrev Cycles : Ledger → Ledger → Prop := Relation.ReflTransGen OneCycle

theorem runCycles_cycles (n : Nat) (p : MicroProgram) (stream : State → Byte) (s : State) :
    Cycles s.ledger (runCycles n p stream s).ledger := by
  induction n generalizing s with
  | zero => exact .refl
  | succ n ih =>
    by_cases h : s.t = 1
    · rw [runCycles_boundary _ _ _ _ h]
    · rw [runCycles_cycle _ _ _ _ h]
      exact .head (nextCycle_oneCycle p stream s h) (ih _)

/-- A sequence of cycles leaves `seq` as it was or at `Instr`. -/
theorem Cycles.seq {v w : Ledger} (h : Cycles v w) (hv : v.seq = .instr) : w.seq = .instr := by
  induction h with
  | refl => exact hv
  | tail _ hc ih => exact hc.seq.elim (·.trans ih) id

/-- What a step from `s` to `t` does: a sequence of cycles, where an interrupt sequence has set `seq` first; and a step
from an instruction boundary comes to one (00_scope.md R7). -/
structure StepLedger (s t : State) : Prop where
  cycles : ∃ q, Cycles (s.ledger.withSeq q) t.ledger
  boundary : s.t = 1 → t.t = 1
  seq : s.t = 1 → s.seq = .instr → t.seq = .instr

/-- One cycle that does not move the sequencer. -/
theorem StepLedger.of_oneCycle {s t : State} (h : OneCycle s.ledger t.ledger) (ht : t.t = s.t) (hq : t.seq = s.seq) :
    StepLedger s t :=
  ⟨⟨s.seq, .single h⟩, ht.trans, fun _ => hq.trans⟩

theorem stepLedger_idleCycle (s : State) : StepLedger s s.idleCycle :=
  .of_oneCycle (oneCycle_dummyRead s _ _) (by simp) (by simp)

theorem stepLedger_exec {i : Instr} {s t : State} (h : exec i s = .next t) : StepLedger s t := by
  rw [exec_eq_runInstr, runInstr] at h
  cases h
  have hc := runCycles_cycles cycleBound (program i) (operandStream i) (s.fetchCycle (opcodeOf i))
  exact ⟨⟨s.seq, .head (s.fetchCycle_oneCycle _) hc⟩,
    fun _ => runCycles_ends _ _ _ _ (by decide) (by simp [cycleBound]), fun _ _ => hc.seq rfl⟩

theorem stepLedger_runInterrupt (s : State) (k : IntKind) : StepLedger s (runInterrupt k s) := by
  obtain ⟨hl, -⟩ := runInterrupt_spec s k
  exact ⟨⟨.int k, .head (s.interruptStart_oneCycle k) (runCycles_cycles _ _ _ _)⟩, fun _ => hl.boundary,
    fun _ _ => hl.seq⟩

theorem stepLedger_boundaryStep {s t : State} (h : boundaryStep s = .next t) : StepLedger s t := by
  unfold boundaryStep fetchExecute at h
  split at h
  · cases h; exact stepLedger_runInterrupt s _
  · split at h
    · exact stepLedger_exec h
    · cases h; exact .of_oneCycle (s.decodeErrorCycle_oneCycle _) (by simp) (by simp)

theorem stepLedger_resume {s t : State} (h : resume s = .next t) (ht : s.t ≠ 1) : StepLedger s t := by
  unfold resume at h
  split at h
  · cases h; exact ⟨⟨s.seq, runCycles_cycles _ _ _ _⟩, (absurd · ht), (absurd · ht)⟩
  · cases h

/-- The latching of the inputs and the waking are no part of the ledger. -/
theorem StepLedger.of_eq {s u t : State} (h : StepLedger u t) (hl : u.ledger = s.ledger) (ht : u.t = s.t) :
    StepLedger s t := by
  obtain ⟨hc, hb, hq⟩ := h
  rw [ht] at hb hq
  exact ⟨hl ▸ hc, hb, fun h1 hs => hq h1 ((congrArg Ledger.seq hl).trans hs)⟩

/-- Every step, by the mode of the engine (60_exceptions.md R348). -/
theorem stepLedger_step {s t : State} (h : step s = .next t) : StepLedger s t := by
  cases hr : s.run with
  | faulted op a => rw [step_faulted hr] at h; cases h
  | stopped =>
    rw [step_stopped hr] at h
    cases h
    exact (stepLedger_idleCycle _).of_eq (by simp) (by simp)
  | waiting =>
    cases hw : woken s.latchInputs with
    | false =>
      rw [step_waiting_idle hr hw] at h
      cases h
      exact (stepLedger_idleCycle _).of_eq (by simp) (by simp)
    | true =>
      rw [step_waiting_woken hr hw] at h
      exact (stepLedger_boundaryStep h).of_eq (by simp) (by simp)
  | running =>
    by_cases ht : s.t = 1
    · rw [step_boundary hr ht] at h
      exact (stepLedger_boundaryStep h).of_eq (by simp) (by simp)
    · rw [step_resume hr ht] at h
      exact stepLedger_resume h ht

/-! ## The machine invariant -/

/-- The part of the machine invariant that every single cycle keeps. -/
structure Ledger.Inv (v : Ledger) : Prop where
  memory : v.mem.wf = true
  numbered : v.bus.map BusCycle.cyc = (List.range v.cyc).reverse
  signals : ∀ b ∈ v.bus, b.signalsOk

theorem OneCycle.inv {v w : Ledger} (h : OneCycle v w) (hv : v.Inv) : w.Inv := by
  obtain ⟨hmem, -, hcyc, ⟨b, hbus, hb, hok⟩, -⟩ := h
  refine ⟨?_, ?_, ?_⟩
  · rcases hmem with hmem | ⟨a, x, hmem⟩ <;> rw [hmem]
    · exact hv.memory
    · exact wf_storeByte hv.memory _ _ _
  · simp [hbus, hcyc, hb, hv.numbered, List.range_succ]
  · simpa [hbus, hok] using hv.signals

theorem Cycles.inv {v w : Ledger} (h : Cycles v w) (hv : v.Inv) : w.Inv := by
  induction h with
  | refl => exact hv
  | tail _ hc ih => exact hc.inv ih

/-- Settles O54: a step is a sequence of cycles from boundary to boundary, and each keeps the ledger's invariant. -/
theorem everyStepKeepsTheInvariant : Obligations.EveryStepKeepsTheInvariant := by
  unfold Obligations.EveryStepKeepsTheInvariant
  intro s t hs h
  obtain ⟨⟨q, hc⟩, hb, hq⟩ := stepLedger_step h
  obtain ⟨hmem, hnum, hsig⟩ := hc.inv ⟨hs.memory, hs.numbered, hs.signals⟩
  exact ⟨hmem, hb hs.boundary, hq hs.boundary hs.program, hnum, hsig⟩

/-! ## ROM and unmapped space -/

theorem Cycles.cfg {v w : Ledger} (h : Cycles v w) : w.cfg = v.cfg := by
  induction h with
  | refl => rfl
  | tail _ hc ih => exact hc.cfg.trans ih

/-- An index of the backing array that no RAM address names (20_memory.md R54, R56). -/
def OutsideRam (c : MemCfg) (k : Nat) : Prop := ∀ a, regionKind c a = some .ram → (mirrorAddr c a).toNat ≠ k

theorem OneCycle.read_outsideRam {v w : Ledger} (h : OneCycle v w) {k : Nat} (hk : OutsideRam v.cfg.memcfg k) :
    w.mem.read k = v.mem.read k := by
  rcases h.mem with hmem | ⟨a, b, hmem⟩ <;> rw [hmem]
  rw [read_storeByte, if_neg]
  rintro ⟨hram, rfl⟩
  exact hk a hram rfl

theorem Cycles.read_outsideRam {v w : Ledger} (h : Cycles v w) {k : Nat} (hk : OutsideRam v.cfg.memcfg k) :
    w.mem.read k = v.mem.read k := by
  induction h with
  | refl => rfl
  | tail hvu hc ih => exact (hc.read_outsideRam (by rwa [Cycles.cfg hvu])).trans ih

/-- An address in ROM or in unmapped space names no RAM byte, since mirroring decides its region. -/
theorem outsideRam_of_regionKind_ne {c : MemCfg} {a : Word} (h : regionKind c a ≠ some .ram) :
    OutsideRam c (mirrorAddr c a).toNat := by
  intro b hb hab
  have hmirror : mirrorAddr c b = mirrorAddr c a := BitVec.eq_of_toNat_eq hab
  exact h (by rw [regionKind, ← hmirror]; exact hb)

/-- What an address reads as depends on the one array byte it names (20_memory.md R55). -/
theorem readByte_congr {c : MemCfg} {m m' : Memory} {a : Word}
    (h : m.read (mirrorAddr c a).toNat = m'.read (mirrorAddr c a).toNat) : readByte c m a = readByte c m' a := by
  unfold readByte
  split
  · exact h
  · rfl

/-- Settles O57: every cycle leaves the configuration and the array bytes outside RAM, and the reads follow. -/
theorem onlyRamChanges : Obligations.OnlyRamChanges := by
  unfold Obligations.OnlyRamChanges
  intro s t h
  obtain ⟨⟨q, hc⟩, -, -⟩ := stepLedger_step h
  have hcfg : t.cfg = s.cfg := hc.cfg
  have hread : ∀ k, OutsideRam s.cfg.memcfg k → t.mem.read k = s.mem.read k := fun k hk => hc.read_outsideRam hk
  refine ⟨hcfg, fun a ha => ?_, hread⟩
  rw [State.memRead, hcfg]
  exact readByte_congr (hread _ (outsideRam_of_regionKind_ne ha))

end Sys2Proof.Machine
end

section
/-! PROOF of O9, O10, O7 and O8: the memory policy (20_memory.md R54 to R57, R65) and the canonical form of the backing
array (R51, log 3). -/

namespace Sys2Proof.Machine

/-! ## Two writes -/

/-- What a read returns after one write cycle. -/
theorem State.memRead_busWrite (s : State) (a b : Word) (v : Byte) :
    (s.busWrite a v).memRead b =
      if regionKind s.cfg.memcfg a = some .ram ∧ mirrorAddr s.cfg.memcfg b = mirrorAddr s.cfg.memcfg a then v
      else s.memRead b := by
  simp only [State.memRead, State.busWrite_cfg, State.busWrite_mem, readByte_storeByte]

/-- Settles O9: the rule of one write, applied to the later one and then to the earlier one. -/
theorem readsReturnTheMostRecentWrite : Obligations.ReadsReturnTheMostRecentWrite := by
  unfold Obligations.ReadsReturnTheMostRecentWrite
  intro s a b c v w
  simp only [State.memRead_busWrite, State.busWrite_cfg, and_comm]

/-! ## The canonical form -/

/-- Below the indexes it lists, a memory reads as unlisted. -/
theorem Memory.read_of_lt {m : Memory} {a : Nat} (h : ∀ c ∈ m, a < c.1) : m.read a = Memory.unlisted := by
  induction m with
  | nil => rfl
  | cons c m ih =>
    have hc : c.1 ≠ a := Nat.ne_of_gt (h c List.mem_cons_self)
    rw [Memory.read, if_neg hc]
    exact ih fun d hd => h d (List.mem_cons_of_mem c hd)

@[simp] theorem Memory.read_cons_self (c : Host.Cell) (m : Memory) : Memory.read (c :: m) c.1 = c.2 := if_pos rfl

/-- A canonical memory lists nothing below its first index. -/
theorem Memory.le_of_read_ne {c : Host.Cell} {m : Memory} {a : Nat} (hc : ∀ d ∈ m, c.1 < d.1)
    (h : Memory.read (c :: m) a ≠ Memory.unlisted) : c.1 ≤ a := by
  by_contra hlt
  have ha : a < c.1 := Nat.lt_of_not_le hlt
  exact h (Memory.read_of_lt (List.forall_mem_cons.mpr ⟨ha, fun d hd => ha.trans (hc d hd)⟩))

/-- Canonical memories that hold the same bytes begin with the same cell: each first index is listed in the other. -/
theorem Memory.head_eq_of_read_eq {c c' : Host.Cell} {m m' : Memory} (h : Memory.wf (c :: m) = true)
    (h' : Memory.wf (c' :: m') = true) (hr : ∀ k < 0x10000, Memory.read (c :: m) k = Memory.read (c' :: m') k) :
    c = c' := by
  obtain ⟨hv, hlt, hm, -⟩ := (Memory.wf_cons c m).mp h
  obtain ⟨hv', hlt', hm', -⟩ := (Memory.wf_cons c' m').mp h'
  have hle : c'.1 ≤ c.1 := Memory.le_of_read_ne hm' (by rwa [← hr _ hlt, Memory.read_cons_self])
  have hge : c.1 ≤ c'.1 := Memory.le_of_read_ne hm (by rwa [hr _ hlt', Memory.read_cons_self])
  have hidx : c.1 = c'.1 := Nat.le_antisymm hge hle
  have hval := hr c.1 hlt
  rw [Memory.read_cons_self, hidx, Memory.read_cons_self] at hval
  exact Prod.ext hidx hval

/-- The cells after the first hold the bytes of the whole but at the first index. -/
theorem Memory.read_tail {c : Host.Cell} {m : Memory} (h : ∀ d ∈ m, c.1 < d.1) (k : Nat) :
    Memory.read m k = if c.1 = k then Memory.unlisted else Memory.read (c :: m) k := by
  split
  · next hk => exact Memory.read_of_lt (hk ▸ h)
  · next hk => rw [Memory.read, if_neg hk]

/-- Settles O10, by induction on the cells of both. -/
theorem canonicalMemoriesAreEqual : Obligations.CanonicalMemoriesAreEqual := by
  unfold Obligations.CanonicalMemoriesAreEqual
  intro m
  induction m with
  | nil =>
    rintro (_ | ⟨c', m'⟩) - h' hr
    · rfl
    · obtain ⟨hv', hlt', -, -⟩ := (Memory.wf_cons c' m').mp h'
      exact absurd ((Memory.read_cons_self c' m').symm.trans (hr _ hlt').symm) hv'
  | cons c m ih =>
    rintro (_ | ⟨c', m'⟩) h h' hr
    · obtain ⟨hv, hlt, -, -⟩ := (Memory.wf_cons c m).mp h
      exact absurd ((Memory.read_cons_self c m).symm.trans (hr _ hlt)) hv
    · obtain rfl := Memory.head_eq_of_read_eq h h' hr
      obtain ⟨-, -, hm, hwf⟩ := (Memory.wf_cons c m).mp h
      obtain ⟨-, -, hm', hwf'⟩ := (Memory.wf_cons c m').mp h'
      rw [ih m' hwf hwf' fun k hk => by rw [Memory.read_tail hm, Memory.read_tail hm', hr k hk]]

/-! ## One read and one write -/

/-- The byte a read gives, by whether the mirrored address lies in a region (20_memory.md R55). -/
theorem State.memRead_eq (s : State) (a : Word) : s.memRead a =
    if regionKind s.cfg.memcfg a = none then s.cfg.memcfg.fill else s.mem.read (mirrorAddr s.cfg.memcfg a).toNat := by
  unfold State.memRead readByte
  split <;> next h => simp [h]

/-- Settles O7, by whether the mirrored address lies in a region. -/
theorem readsFollowTheMemoryPolicy : Obligations.ReadsFollowTheMemoryPolicy := by
  unfold Obligations.ReadsFollowTheMemoryPolicy
  intro s a
  have hk : kindIn s.cfg.memcfg.regions (mirrorAddr s.cfg.memcfg a) = regionKind s.cfg.memcfg a := rfl
  simp only [hk, ← State.memRead_eq, true_and, State.busRead, State.readCycle, State.noteRead]
  cases regionKind s.cfg.memcfg a <;> rfl

/-- Settles O8, by the kind of the region the mirrored address lies in. -/
theorem writesFollowTheMemoryPolicy : Obligations.WritesFollowTheMemoryPolicy := by
  unfold Obligations.WritesFollowTheMemoryPolicy
  intro s a v
  have hk : kindIn s.cfg.memcfg.regions (mirrorAddr s.cfg.memcfg a) = regionKind s.cfg.memcfg a := rfl
  simp only [hk, State.busWrite, State.noteWrite, storeByte]
  cases regionKind s.cfg.memcfg a with
  | none => rfl
  | some kind => cases kind <;> rfl

end Sys2Proof.Machine
end

section
/-! PROOF of O1 to O5: the encoding (30_encoding.md R80 to R92). The slot of an opcode fixes the bytes of what it builds
(`opcodeForm_fits`) and every instruction is built by the slot of its own opcode (`EncodedForm.ofInstr`), so bytes
decode to an instruction exactly when they begin with its encoding and its group is present (`decode_eq_ok_iff`). -/

namespace Sys2Proof.Laws.EncodedForm

/-- The statements made per instruction are all there: one for each constructor. -/
theorem ofInstr (i : Instr) : Statement i :=
  Instr.casesOn i
    ldaImm ldaZp ldaZpx ldaAbs ldaAbx ldaAby ldaIzx ldaIzy ldaIzp ldxImm ldxZp ldxZpy ldxAbs ldxAby ldyImm ldyZp
    ldyZpx ldyAbs ldyAbx staZp staZpx staAbs staAbx staAby staIzx staIzy staIzp stxZp stxZpy stxAbs styZp styZpx
    styAbs stzZp stzZpx stzAbs stzAbx tax tay txa tya tsx txs pha phx phy php pla plx ply plp adcImm adcZp adcZpx
    adcAbs adcAbx adcAby adcIzx adcIzy adcIzp sbcImm sbcZp sbcZpx sbcAbs sbcAbx sbcAby sbcIzx sbcIzy sbcIzp andImm
    andZp andZpx andAbs andAbx andAby andIzx andIzy andIzp oraImm oraZp oraZpx oraAbs oraAbx oraAby oraIzx oraIzy
    oraIzp eorImm eorZp eorZpx eorAbs eorAbx eorAby eorIzx eorIzy eorIzp cmpImm cmpZp cmpZpx cmpAbs cmpAbx cmpAby
    cmpIzx cmpIzy cmpIzp cpxImm cpxZp cpxAbs cpyImm cpyZp cpyAbs bitImm bitZp bitZpx bitAbs bitAbx aslAcc aslZp
    aslZpx aslAbs aslAbx lsrAcc lsrZp lsrZpx lsrAbs lsrAbx rolAcc rolZp rolZpx rolAbs rolAbx rorAcc rorZp rorZpx
    rorAbs rorAbx incAcc incZp incZpx incAbs incAbx decAcc decZp decZpx decAbs decAbx inx iny dex dey tsbZp tsbAbs
    trbZp trbAbs rmb0 rmb1 rmb2 rmb3 rmb4 rmb5 rmb6 rmb7 smb0 smb1 smb2 smb3 smb4 smb5 smb6 smb7 bcc bcs beq bne
    bmi bpl bvc bvs bra bbr0 bbr1 bbr2 bbr3 bbr4 bbr5 bbr6 bbr7 bbs0 bbs1 bbs2 bbs3 bbs4 bbs5 bbs6 bbs7 jmpAbs
    jmpInd jmpIax jsr rts clc sec cld sed cli sei clv brk rti nop wai stp

end Sys2Proof.Laws.EncodedForm

namespace Sys2Proof

open Laws

/-! ## The opcode map under CAPS -/

theorem lookupOpcode_eq_ok_iff {caps : Caps} {op : Byte} {f : Form} :
    lookupOpcode caps op = .ok f ↔ opcodeForm op = some f ∧ caps.has (opcodeGroup op) = true := by
  unfold lookupOpcode
  cases opcodeForm op with
  | none => simp
  | some g => cases caps.has (opcodeGroup op) <;> simp

theorem lookupOpcode_eq_unassigned_iff {caps : Caps} {op : Byte} :
    lookupOpcode caps op = .error (.unassigned op) ↔ opcodeForm op = none := by
  unfold lookupOpcode
  cases opcodeForm op with
  | none => simp
  | some f => cases caps.has (opcodeGroup op) <;> simp

theorem lookupOpcode_eq_groupAbsent_iff {caps : Caps} {op : Byte} {g : Group} :
    lookupOpcode caps op = .error (.groupAbsent op g) ↔
      opcodeForm op ≠ none ∧ opcodeGroup op = g ∧ caps.has g = false := by
  unfold lookupOpcode
  cases opcodeForm op with
  | none => simp
  | some f =>
    by_cases hg : opcodeGroup op = g
    · subst hg; cases caps.has (opcodeGroup op) <;> simp
    · cases caps.has (opcodeGroup op) <;> simp [hg]

theorem opcodeForm_eq_none_iff (op : Byte) : opcodeForm op = none ↔ op ∈ unassignedOpcodes := by
  rw [← Option.isNone_iff_eq_none]
  obtain ⟨n⟩ := op
  fin_cases n <;> decide

/-- No opcode of a capability group is unassigned. -/
theorem opcodeForm_ne_none_of_group {op : Byte} (h : opcodeGroup op ≠ .base) : opcodeForm op ≠ none := by
  have hbase : ∀ op ∈ unassignedOpcodes, opcodeGroup op = .base := by decide
  exact fun hn => h (hbase op ((opcodeForm_eq_none_iff op).mp hn))

theorem opcodeGroup_eq_bitops_iff (op : Byte) : opcodeGroup op = .bitops ↔ bitopsOpcode op = true := by
  simp only [opcodeGroup, bitopsOpcode, Bool.or_eq_true, beq_iff_eq]
  split_ifs <;> simp [*]

theorem opcodeGroup_eq_waistp_iff (op : Byte) : opcodeGroup op = .waistp ↔ waistpOpcode op = true := by
  simp only [opcodeGroup, waistpOpcode, Bool.or_eq_true, beq_iff_eq]
  split_ifs with hlow hop
  · exact iff_of_false nofun (by rintro (rfl | rfl) <;> simp at hlow)
  · simp [hop]
  · simp [hop]

/-! ## The operand bytes of a slot -/

theorem Form.take_eq_ok_iff {f : Form} {bytes rest : List Byte} {i : Instr} :
    f.take bytes = .ok i rest ↔ ∃ b1 b2, i = f.build b1 b2 ∧ bytes = f.operandBytes b1 b2 ++ rest := by
  cases f with
  | f1 j => simp [Form.take, Form.build, Form.operandBytes, eq_comm]
  | f2 mk => rcases bytes with _ | ⟨b1, bytes⟩ <;> simp [Form.take, Form.build, Form.operandBytes, eq_comm]
  | f3 mk =>
    rcases bytes with _ | ⟨b1, _ | ⟨b2, bytes⟩⟩ <;> simp [Form.take, Form.build, Form.operandBytes, eq_comm]

/-- A slot rejects bytes only for being too few. -/
theorem Form.take_eq_rejected {f : Form} {bytes : List Byte} {why : Reject} (h : f.take bytes = .rejected why) :
    why = .truncated := by
  cases f with
  | f1 i => cases h
  | f2 mk => rcases bytes with _ | ⟨b1, bytes⟩ <;> cases h; rfl
  | f3 mk => rcases bytes with _ | ⟨b1, _ | ⟨b2, bytes⟩⟩ <;> cases h <;> rfl

/-! ## The encoder and the decoder -/

theorem decode_cons_eq_ok_iff {caps : Caps} {op : Byte} {bytes rest : List Byte} {i : Instr} :
    decode caps (op :: bytes) = .ok i rest ↔ ∃ f, lookupOpcode caps op = .ok f ∧ f.take bytes = .ok i rest := by
  unfold decode
  cases h : lookupOpcode caps op <;> simp [h]

theorem decode_cons_eq_rejected_iff {caps : Caps} {op : Byte} {rest : List Byte} {why : Reject}
    (hw : why ≠ .truncated) : decode caps (op :: rest) = .rejected why ↔ lookupOpcode caps op = .error why := by
  refine ⟨fun hd => ?_, fun hl => decode_of_lookupOpcode_error hl rest⟩
  cases hl : lookupOpcode caps op with
  | error why' =>
    rw [decode_of_lookupOpcode_error hl] at hd
    cases hd
    rfl
  | ok f =>
    simp only [decode, hl] at hd
    exact absurd (Form.take_eq_rejected hd) hw

theorem decode_cons_eq_groupAbsent_iff {caps : Caps} {op : Byte} {rest : List Byte} {g : Group} (hg : g ≠ .base) :
    decode caps (op :: rest) = .rejected (.groupAbsent op g) ↔ opcodeGroup op = g ∧ caps.has g = false := by
  rw [decode_cons_eq_rejected_iff (by simp), lookupOpcode_eq_groupAbsent_iff]
  exact and_iff_right_of_imp fun h => opcodeForm_ne_none_of_group (h.1 ▸ hg)

/-- The decoder answers `i` exactly for the encoding of `i` and bytes after it, where the group of `i` is in CAPS. -/
theorem decode_eq_ok_iff {caps : Caps} {bytes rest : List Byte} {i : Instr} :
    decode caps bytes = .ok i rest ↔ bytes = encode i ++ rest ∧ i.wellFormed caps = true := by
  constructor
  · intro h
    cases bytes with
    | nil => cases h
    | cons op bytes =>
      obtain ⟨f, hl, ht⟩ := decode_cons_eq_ok_iff.mp h
      obtain ⟨hf, hg⟩ := lookupOpcode_eq_ok_iff.mp hl
      obtain ⟨b1, b2, rfl, rfl⟩ := Form.take_eq_ok_iff.mp ht
      have hfits := opcodeForm_fits hf
      obtain ⟨-, hgroup, -⟩ := EncodedForm.ofInstr (f.build b1 b2)
      rw [hfits.opcodeOf] at hgroup
      exact ⟨by rw [hfits.encode, List.cons_append], by rw [Instr.wellFormed, ← hgroup]; exact hg⟩
  · rintro ⟨rfl, hw⟩
    obtain ⟨-, hgroup, f, hf, hb⟩ := EncodedForm.ofInstr i
    have henc := (opcodeForm_fits hf).encode i.op1 i.op2
    rw [show f.build i.op1 i.op2 = i from hb] at henc
    rw [henc, List.cons_append]
    exact decode_cons_eq_ok_iff.mpr ⟨f, lookupOpcode_eq_ok_iff.mpr ⟨hf, hgroup ▸ hw⟩,
      Form.take_eq_ok_iff.mpr ⟨_, _, hb.symm, rfl⟩⟩

/-- Settles O1: the bytes are those of `i`, so what decides is the group of `i`. -/
theorem decodeInvertsEncode : Obligations.DecodeInvertsEncode := by
  unfold Obligations.DecodeInvertsEncode
  intro caps i rest
  simp [decode_eq_ok_iff]

/-- Settles O2: the encoding is all that decodes to `i`, and its length is that of the addressing mode. -/
theorem encodeInvertsDecode : Obligations.EncodeInvertsDecode := by
  unfold Obligations.EncodeInvertsDecode
  intro caps bytes rest i h
  obtain ⟨rfl, hw⟩ := decode_eq_ok_iff.mp h
  obtain ⟨hlen, -⟩ := EncodedForm.ofInstr i
  exact ⟨rfl, by rw [List.length_append, hlen], hw⟩

/-- Settles O3: each word is the encoding of its instruction, and all groups are present. -/
theorem sampleWordsDecode : Obligations.SampleWordsDecode := by
  unfold Obligations.SampleWordsDecode
  simp only [decode_eq_ok_iff]
  decide

/-- Settles O4: a rejection that is not for too few bytes is the one of the opcode map. -/
theorem placeholderOpcodesAreRejected : Obligations.PlaceholderOpcodesAreRejected := by
  unfold Obligations.PlaceholderOpcodesAreRejected
  intro caps op rest
  refine ⟨?_, ?_, ?_⟩
  · rw [decode_cons_eq_rejected_iff (by simp), lookupOpcode_eq_unassigned_iff, opcodeForm_eq_none_iff]
  · rw [decode_cons_eq_groupAbsent_iff (by simp), opcodeGroup_eq_bitops_iff, Caps.has]
  · rw [decode_cons_eq_groupAbsent_iff (by simp), opcodeGroup_eq_waistp_iff, Caps.has]

/-- Settles O5 by `program_template`. -/
theorem programsAreTheTablesTemplates : Obligations.ProgramsAreTheTablesTemplates := by
  unfold Obligations.ProgramsAreTheTablesTemplates
  exact Machine.program_template

end Sys2Proof
end

section
/-! PROOF of O44 and O45: the bus trace and the cycle count of every instruction (40_addressing_and_bus_cycles.md R118
to R152). The trace is what the lemma of each cycle template (`runInstr_read` and its like) says of the program of `i`.
The count needs no second run: a step counts as many cycles as it emits records (`StepLedger.balance`), so it is the
length of the trace, and that is the table's count (`State.trace_length`). -/

namespace Sys2Proof

/-- The addressing mode a data mode is. -/
def DataMode.mode : DataMode → Mode
  | .zp => .zp
  | .zpx => .zpx
  | .zpy => .zpy
  | .abs => .abs
  | .abx => .abx
  | .aby => .aby
  | .izx => .izx
  | .izy => .izy
  | .izp => .izp

end Sys2Proof

namespace Sys2Proof.Machine

/-! ## The trace -/

/-- Of what is known of a run, the part about its records. -/
theorem emits_of_run {o : Host.Outcome State Fault Refusal} {s : State} {L : State → Prop} {l : List Access}
    (h : ∃ t, o = .next t ∧ L t ∧ Emits s t l) : ∃ t, o = .next t ∧ Emits s t l := by
  obtain ⟨t, ho, -, he⟩ := h
  exact ⟨t, ho, he⟩

theorem runInstr_imm_emits (s : State) (i : Instr) (decimal : Bool) (op : Byte → Regs → Regs) :
    ∃ t, runInstr i (.imm decimal op) s = .next t ∧ Emits s t (s.rdOpcode i :: rd (s.after 1) i.op1 ::
      (if decimal && s.r.p.d then
        [s.rdDummy (s.during 2 (s.after 2) { s.fetched i with dl := i.op1 }) .da19 (s.after 1)] else [])) := by
  cases hd : decimal && s.r.p.d with
  | false => exact emits_of_run (runInstr_imm s i decimal op hd)
  | true =>
    obtain ⟨rfl, hp⟩ := Bool.and_eq_true_iff.mp hd
    exact emits_of_run (runInstr_imm_decimal s i op hp)

theorem runInstr_branch_emits (s : State) (i : Instr) (cond : Flags → Bool) :
    ∃ t, runInstr i (.branch cond) s = .next t ∧ Emits s t
      (s.rdOpcode i :: rd (s.after 1) i.op1 :: s.traceBranch 2 (cond s.r.p) (s.after 2) i.op1 (s.fetched i)) := by
  cases hc : cond s.r.p with
  | false => exact emits_of_run (runInstr_branch_not_taken s i cond hc)
  | true =>
    by_cases hp : hiByte (s.pc + 2#16 + i.op1.signExtend 16) = hiByte (s.pc + 2#16)
    · exact emits_of_run (runInstr_branch_taken s i cond hc hp)
    · exact emits_of_run (runInstr_branch_crossed s i cond hc hp)

theorem runInstr_bitBranch_emits (s : State) (i : Instr) (n : Nat) (sense : Bool) :
    ∃ t, runInstr i (.bitBranch n sense) s = .next t ∧ Emits s t
      (s.rdOpcode i :: ([rd (s.after 1) i.op1, s.rdMem (wordOf 0x00#8 i.op1),
        s.rdDummy (s.during 3 (s.after 2) (s.tested i)) .da22 (wordOf 0x00#8 i.op1), rd (s.after 2) i.op2] ++
        s.traceBranch 5 (decide ((s.memRead (wordOf 0x00#8 i.op1)).getLsbD n = sense)) (s.after 3) i.op2
          (s.tested i))) := by
  by_cases hc : (s.memRead (wordOf 0x00#8 i.op1)).getLsbD n = sense
  · rw [decide_eq_true hc]
    by_cases hp : hiByte (s.pc + 3#16 + i.op2.signExtend 16) = hiByte (s.pc + 3#16)
    · exact emits_of_run (runInstr_bitBranch_taken s i n sense hc hp)
    · exact emits_of_run (runInstr_bitBranch_crossed s i n sense hc hp)
  · rw [decide_eq_false hc]
    exact emits_of_run (runInstr_bitBranch_not_taken s i n sense hc)

/-- Every instruction answers a next state, and its records are its trace. -/
theorem exec_emits_trace (i : Instr) (s : State) : ∃ t, exec i s = .next t ∧ Emits s t (s.trace i) := by
  rw [exec_eq_runInstr]
  unfold State.trace branchTaken
  cases hp : program i with
  | imp op => exact emits_of_run (runInstr_imp s i op)
  | imm decimal op => exact runInstr_imm_emits s i decimal op
  | read m decimal op => exact emits_of_run (runInstr_read s i m decimal op)
  | write m v => exact emits_of_run (runInstr_write s i m v)
  | modify m always res fl => exact emits_of_run (runInstr_modify s i m always res fl)
  | branch cond => exact runInstr_branch_emits s i cond
  | bitBranch n sense => exact runInstr_bitBranch_emits s i n sense
  | jmpAbs => exact emits_of_run (runInstr_jmpAbs s i)
  | jmpInd => exact emits_of_run (runInstr_jmpInd s i)
  | jmpIax => exact emits_of_run (runInstr_jmpIax s i)
  | jsr => exact emits_of_run (runInstr_jsr s i)
  | rts => exact emits_of_run (runInstr_rts s i)
  | rti => exact emits_of_run (runInstr_rti s i)
  | brk => exact emits_of_run (runInstr_brk s i)
  | push v => exact emits_of_run (runInstr_push s i v)
  | pull op => exact emits_of_run (runInstr_pull s i op)
  | halt mode => exact emits_of_run (runInstr_halt s i mode)
  | interrupt k => exact absurd hp (program_ne_interrupt i k)

/-- Settles O45 by the trace of every program and of the interrupt sequence. -/
theorem busTracesMatchTheTemplates : Obligations.BusTracesMatchTheTemplates := by
  unfold Obligations.BusTracesMatchTheTemplates
  refine ⟨fun i s t h => ?_, fun k s => ?_⟩
  · obtain ⟨t', h', he⟩ := exec_emits_trace i s
    rw [h] at h'
    cases h'
    exact he
  · obtain ⟨-, he⟩ := runInterrupt_spec s k
    exact he

/-! ## Cycles and records -/

theorem Emits.bus_length {s t : State} {l : List Access} (h : Emits s t l) :
    t.bus.length = s.bus.length + l.length := by
  rw [h, List.length_append, List.length_reverse, records_length, Nat.add_comm]

/-- Cycles count as many as they record. -/
theorem Cycles.balance {v w : Ledger} (h : Cycles v w) : w.cyc + v.bus.length = v.cyc + w.bus.length := by
  induction h with
  | refl => rfl
  | tail _ hc ih =>
    obtain ⟨b, hbus, -⟩ := hc.bus
    rw [hc.cyc, hbus, List.length_cons]
    omega

/-- A step counts as many cycles as it emits BusCycles (R110). -/
theorem StepLedger.balance {s t : State} (h : StepLedger s t) : t.cyc + s.bus.length = s.cyc + t.bus.length := by
  obtain ⟨q, hc⟩ := h.cycles
  exact hc.balance

theorem StepLedger.cyc_of_emits {s t : State} {l : List Access} (h : StepLedger s t) (he : Emits s t l) :
    t.cyc = s.cyc + l.length := by
  have hb := h.balance
  have hl := he.bus_length
  omega

/-! ## The table of cycle counts -/

/-- The data mode a program addresses memory with. -/
def MicroProgram.dataMode : MicroProgram → Option DataMode
  | .read m _ _ => some m
  | .write m _ => some m
  | .modify m _ _ _ => some m
  | _ => none

/-- The data mode of an instruction's program is the addressing mode its row of the opcode table names. -/
theorem program_dataMode (i : Instr) : ((program i).dataMode.map DataMode.mode).getD i.mode = i.mode := by
  cases i <;> rfl

/-- `+t+p` of a branch as the trace has it. -/
theorem State.traceBranch_length (s : State) (k : Nat) (taken : Bool) (next : Word) (off : Byte) (lat : Latches) :
    (s.traceBranch k taken next off lat).length = branchCycles taken next off := by
  unfold State.traceBranch branchCycles
  split_ifs <;> rfl

theorem template_of_program {i : Instr} {p : MicroProgram} {tp : Template} (hp : program i = p)
    (ht : p.template = some tp) : i.template = tp := by
  have h := program_template i
  rw [hp, ht] at h
  exact (Option.some.inj h).symm

theorem mode_of_program {i : Instr} {p : MicroProgram} {m : DataMode} (hp : program i = p) (hm : p.dataMode = some m) :
    i.mode = m.mode := by
  have h := program_dataMode i
  rw [hp, hm] at h
  exact h.symm

theorem instrCycles_read {i : Instr} {m : DataMode} {decimal : Bool} {op : Byte → Regs → Regs} (s : State)
    (hp : program i = .read m decimal op) :
    instrCycles i s = readCycles m (s.crosses m i.op1) + (decimal && s.r.p.d).toNat := by
  have hm := mode_of_program hp rfl
  have hd : decimalCycle i s = (decimal && s.r.p.d).toNat := by
    unfold decimalCycle; rw [hp]; cases decimal <;> rfl
  unfold instrCycles
  rw [hd, hm]
  cases m <;> rw [template_of_program hp rfl] <;> rfl

theorem instrCycles_write {i : Instr} {m : DataMode} {v : Regs → Byte} (s : State) (hp : program i = .write m v) :
    instrCycles i s = storeCycles m := by
  unfold instrCycles decimalCycle
  cases m <;> rw [template_of_program hp rfl, hp] <;> rfl

/-- The read-modify-write templates that the table has (R122, R125, R128, R131, R132). -/
theorem MicroProgram.modify_template_cases {m : DataMode} {always : Bool} {res : Byte → Regs → Byte}
    {fl : Byte → Regs → Flags} {tp : Template} (h : (MicroProgram.modify m always res fl).template = some tp) :
    (m = .zp ∧ always = false ∧ tp = .zpM) ∨ (m = .zpx ∧ always = false ∧ tp = .zpxM) ∨
      (m = .abs ∧ always = false ∧ tp = .absM) ∨ (m = .abx ∧ always = false ∧ tp = .abxM) ∨
      (m = .abx ∧ always = true ∧ tp = .abxM7) := by
  cases m <;> cases always <;> cases h <;> decide

theorem instrCycles_modify {i : Instr} {m : DataMode} {always : Bool} {res : Byte → Regs → Byte}
    {fl : Byte → Regs → Flags} (s : State) (hp : program i = .modify m always res fl) :
    instrCycles i s = lastAddressCycle m always (s.crosses m i.op1) + 3 := by
  have ht := program_template i
  rw [hp] at ht
  unfold instrCycles decimalCycle
  rw [hp]
  obtain ⟨rfl, rfl, htp⟩ | ⟨rfl, rfl, htp⟩ | ⟨rfl, rfl, htp⟩ | ⟨rfl, rfl, htp⟩ | ⟨rfl, rfl, htp⟩ :=
    MicroProgram.modify_template_cases ht <;> rw [htp]
  · rfl
  · rfl
  · rfl
  · change 6 + (s.crosses .abx i.op1).toNat + 0 = _
    cases s.crosses .abx i.op1 <;> rfl
  · rfl

/-- The trace has one access for each cycle of R152; the data modes by the counts of their addressing cycles. -/
theorem State.trace_length (s : State) (i : Instr) : (s.trace i).length = instrCycles i s := by
  cases hp : program i with
  | read m decimal op =>
    rw [instrCycles_read s hp, ← readCycles_eq]
    simp only [State.trace, hp]
    cases decimal && s.r.p.d <;> simp
  | write m v =>
    rw [instrCycles_write s hp, ← storeCycles_eq s i]
    simp [State.trace, hp]
  | modify m always res fl =>
    rw [instrCycles_modify s hp, lastAddressCycle_eq]
    simp [State.trace, hp]
  | imm decimal op =>
    have ht := template_of_program hp rfl
    cases decimal <;> cases hd : s.r.p.d <;> simp [State.trace, instrCycles, decimalCycle, hp, ht, hd]
  | branch cond =>
    have ht := template_of_program hp rfl
    simp [State.trace, instrCycles, decimalCycle, hp, ht, State.traceBranch_length]
    omega
  | bitBranch n sense =>
    have ht := template_of_program hp rfl
    simp [State.trace, instrCycles, decimalCycle, hp, ht, State.traceBranch_length]
    omega
  | interrupt k => exact absurd hp (program_ne_interrupt i k)
  | _ =>
    have ht := template_of_program hp rfl
    simp [State.trace, State.tracePull, State.traceTrap, instrCycles, decimalCycle, hp, ht]

/-- Settles O44: one cycle for each record of the trace. -/
theorem cycleCountsMatchTheTable : Obligations.CycleCountsMatchTheTable := by
  unfold Obligations.CycleCountsMatchTheTable
  refine fun i s => ⟨?_, fun k => ?_⟩
  · obtain ⟨t, h, he⟩ := exec_emits_trace i s
    rw [← State.trace_length]
    exact ⟨t, h, (stepLedger_exec h).cyc_of_emits he, he.bus_length⟩
  · obtain ⟨hl, he⟩ := runInterrupt_spec s k
    exact ⟨hl.cyc, he.bus_length⟩

end Sys2Proof.Machine
end

section
/-! PROOF of O53, the single tick (40_addressing_and_bus_cycles.md R110; 60_exceptions.md R344, R345): one bus cycle
(`OneCycle`) with the inputs latched. No row of a program touches the host's view of the interrupt controller
(`host_cycleRow`), but for the first of an NMI sequence. -/

namespace Sys2Proof.Machine

/-! ## The host's view in the rows of a program (60_exceptions.md R344, R345) -/

@[simp] theorem State.host_rowAbsIndexing (s : State) (always : Bool) : (s.rowAbsIndexing always).host = s.host := by
  unfold State.rowAbsIndexing; split_ifs <;> simp

@[simp] theorem State.host_rowIzyIndexing (s : State) (always : Bool) : (s.rowIzyIndexing always).host = s.host := by
  unfold State.rowIzyIndexing; split_ifs <;> simp

@[simp] theorem State.host_addressRow (s : State) (m : DataMode) (always : Bool) (b : Byte) :
    (s.addressRow m always b).host = s.host := by
  cases m <;> simp only [State.addressRow]
  case zp => simp [State.rowZpa]
  all_goals
    split <;>
      simp [State.rowZpa, State.rowAdl, State.rowAdhEa, State.rowAdhIndexed, State.rowPointerLo, State.rowPointerHi,
        State.rowPointerHiY]

@[simp] theorem State.host_takenRow (s : State) : s.takenRow.host = s.host := by
  unfold State.takenRow; split_ifs <;> simp

@[simp] theorem State.host_takenCrossRow (s : State) : s.takenCrossRow.host = s.host := by simp [State.takenCrossRow]

@[simp] theorem State.host_jumpPointerRow (s : State) : s.jumpPointerRow.host = s.host := by
  unfold State.jumpPointerRow; split <;> simp

@[simp] theorem State.host_trapEntryRow (s : State) (vec : Word) (b : Bool) :
    (s.trapEntryRow vec b).host = s.host := by
  unfold State.trapEntryRow; split <;> simp

theorem State.host_immRow (s : State) (decimal : Bool) (op : Byte → Regs → Regs) (b : Byte) :
    (s.immRow decimal op b).host = s.host := by
  unfold State.immRow
  split
  · split_ifs <;> simp
  · simp

theorem State.host_readRow (s : State) (m : DataMode) (decimal : Bool) (op : Byte → Regs → Regs) (b : Byte) :
    (s.readRow m decimal op b).host = s.host := by
  unfold State.readRow State.dataReadRow State.decimalRow; split_ifs <;> simp

theorem State.host_writeRow (s : State) (m : DataMode) (v : Regs → Byte) (b : Byte) :
    (s.writeRow m v b).host = s.host := by
  unfold State.writeRow; split_ifs <;> simp

theorem State.host_modifyRow (s : State) (m : DataMode) (always : Bool) (res : Byte → Regs → Byte)
    (fl : Byte → Regs → Flags) (b : Byte) : (s.modifyRow m always res fl b).host = s.host := by
  unfold State.modifyRow; split_ifs <;> simp

theorem State.host_branchRow (s : State) (cond : Flags → Bool) (b : Byte) : (s.branchRow cond b).host = s.host := by
  unfold State.branchRow
  split
  · split_ifs <;> simp
  · simp
  · simp

theorem State.host_bitBranchRow (s : State) (n : Nat) (sense : Bool) (b : Byte) :
    (s.bitBranchRow n sense b).host = s.host := by
  unfold State.bitBranchRow
  split
  case h_4 => split_ifs <;> simp
  all_goals simp [State.rowZpa]

/-- Every cycle of every program but the first of an interrupt sequence, which may clear a pending NMI. -/
theorem host_cycleRow (p : MicroProgram) (b : Byte) {s : State} (h : s.t ≠ 1) : (cycleRow p b s).host = s.host := by
  cases p with
  | imp op => simp [cycleRow, State.impRow]
  | imm decimal op => exact s.host_immRow decimal op b
  | read m decimal op => exact s.host_readRow m decimal op b
  | write m v => exact s.host_writeRow m v b
  | modify m always res fl => exact s.host_modifyRow m always res fl b
  | branch cond => exact s.host_branchRow cond b
  | bitBranch n sense => exact s.host_bitBranchRow n sense b
  | jmpAbs => simp only [cycleRow, State.jmpAbsRow]; split <;> simp [State.rowAdl]
  | jmpInd => simp only [cycleRow, State.jmpIndRow]; split <;> simp [State.rowAdl, State.rowAdhEa]
  | jmpIax => simp only [cycleRow, State.jmpIaxRow]; split <;> simp [State.rowAdl]
  | jsr => simp only [cycleRow, State.jsrRow]; split <;> simp [State.rowAdl]
  | rts => simp only [cycleRow, State.rtsRow]; split <;> simp
  | rti => simp only [cycleRow, State.trapReturnRow]; split <;> simp
  | brk => simp only [cycleRow, State.brkRow]; split <;> simp
  | push v => simp only [cycleRow, State.pushRow]; split <;> simp
  | pull op => simp only [cycleRow, State.pullRow]; split <;> simp
  | halt mode => simp only [cycleRow, State.haltRow]; split <;> simp
  | interrupt k =>
    simp only [cycleRow, State.interruptRow]
    split
    · exact absurd ‹s.t = 1› h
    · simp
    · simp

/-! ## The tick -/

/-- What one tick makes of a state whose ledger is `v` and whose inputs, latched, are `h`: one cycle, which the start of
an interrupt sequence accounts from its `seq` on, and the host's view but for the NMI that such a start takes. -/
structure OneTick (v : Ledger) (h : HostView) (t : State) : Prop where
  cycle : ∃ q, OneCycle (v.withSeq q) t.ledger
  host : t.host = h ∨ (t.seq = .int .nmi ∧ t.t = 2 ∧ t.host = { h with nmiPending := false })

theorem OneTick.of_oneCycle {v : Ledger} {h : HostView} {t : State} (hc : OneCycle v t.ledger) (ht : t.host = h) :
    OneTick v h t := ⟨⟨v.seq, hc⟩, .inl ht⟩

theorem oneTick_idleCycle (s : State) : OneTick s.ledger s.host s.idleCycle :=
  .of_oneCycle (oneCycle_dummyRead s _ _) (by simp)

theorem oneTick_interruptStart (s : State) (k : IntKind) : OneTick s.ledger s.host (s.interruptStart k) := by
  refine ⟨⟨.int k, s.interruptStart_oneCycle k⟩, ?_⟩
  cases k with
  | nmi => exact .inr ⟨rfl, rfl, by simp [State.interruptStart]⟩
  | irq => exact .inl (by simp [State.interruptStart]; rfl)

theorem oneTick_boundaryTick (s : State) : OneTick s.ledger s.host (boundaryTick s) := by
  unfold boundaryTick
  split
  · exact oneTick_interruptStart s _
  · split
    · exact .of_oneCycle (s.fetchCycle_oneCycle _) (by simp)
    · exact .of_oneCycle (s.decodeErrorCycle_oneCycle _) (by simp)

theorem oneTick_nextCycle (p : MicroProgram) (stream : State → Byte) {s : State} (h : s.t ≠ 1) :
    OneTick s.ledger s.host.latch (nextCycle p stream s) :=
  .of_oneCycle (nextCycle_oneCycle p stream s h) (by rw [nextCycle, host_cycleRow p _ (by simpa using h)]; simp)

/-- Every tick, by the mode of the engine (60_exceptions.md R348). -/
theorem oneTick_tick {s t : State} (h : tick s = .next t) : OneTick s.ledger s.host.latch t := by
  cases hr : s.run with
  | faulted op a => rw [tick_faulted hr] at h; cases h
  | stopped =>
    rw [tick_stopped hr] at h
    cases h
    simpa using oneTick_idleCycle s.latchInputs
  | waiting =>
    cases hw : woken s.latchInputs with
    | false =>
      rw [tick_waiting_idle hr hw] at h
      cases h
      simpa using oneTick_idleCycle s.latchInputs
    | true =>
      rw [tick_waiting_woken hr hw] at h
      cases h
      simpa using oneTick_boundaryTick (s.latchInputs.withRun .running)
  | running =>
    by_cases ht : s.t = 1
    · rw [tick_boundary hr ht] at h
      cases h
      simpa using oneTick_boundaryTick s.latchInputs
    · cases hp : runningProgram s with
      | none => rw [tick_mid_none hr ht hp] at h; cases h
      | some p =>
        rw [tick_mid hr ht hp] at h
        cases h
        exact oneTick_nextCycle p memoryStream ht

/-- Settles O53: a tick is one cycle, and its host's view is the latched one but at the start of an NMI sequence. -/
theorem everyTickEmitsAndLatches : Obligations.EveryTickEmitsAndLatches := by
  unfold Obligations.EveryTickEmitsAndLatches
  intro s t h
  obtain ⟨⟨q, hc⟩, hhost⟩ := oneTick_tick h
  obtain ⟨b, hbus, hb, -⟩ := hc.bus
  refine ⟨⟨b, hbus, hb⟩, hc.cyc, ?_⟩
  rcases hhost with hhost | ⟨hseq, ht, hhost⟩
  · exact ⟨congrArg HostView.irqLine hhost, congrArg HostView.inputs hhost,
      .inl (congrArg HostView.nmiPending hhost)⟩
  · exact ⟨congrArg HostView.irqLine hhost, congrArg HostView.inputs hhost,
      .inr ⟨hseq, ht, congrArg HostView.nmiPending hhost⟩⟩

end Sys2Proof.Machine
end

section
/-! PROOF of O6 and O46: the effective addresses and their page-cross test (40_addressing_and_bus_cycles.md R115, R116),
and the step at an instruction boundary, which decodes the bytes at PC (R111). -/

namespace Sys2Proof.Machine

/-! ## The effective addresses -/

theorem toNat_wordOf (hi lo : Byte) : (wordOf hi lo).toNat = hi.toNat * 256 + lo.toNat := by
  rw [wordOf, BitVec.toNat_append, ← Nat.shiftLeft_add_eq_or_of_lt lo.isLt, Nat.shiftLeft_eq]

theorem toNat_hiByte (w : Word) : (hiByte w).toNat = w.toNat / 256 := by
  rw [hiByte, BitVec.extractLsb'_toNat, Nat.shiftRight_eq_div_pow]
  exact Nat.mod_eq_of_lt (Nat.div_lt_of_lt_mul w.isLt)

/-- The page-cross test of R115 is whether the indexing changes the high byte of the address. -/
theorem pageCross_eq (hi lo i : Byte) :
    pageCross lo i = decide (hiByte (absIndexed lo hi i) ≠ hiByte (absIndexed lo hi i - i.setWidth 16)) := by
  rw [absIndexed, zext16, BitVec.add_sub_cancel, pageCross, decide_eq_decide, ne_eq, ← BitVec.toNat_inj, toNat_hiByte,
    toNat_hiByte, BitVec.toNat_add, toNat_wordOf, BitVec.toNat_setWidth]
  have hhi := hi.isLt
  have hlo := lo.isLt
  have hidx := i.isLt
  omega

/-- Settles O6: the addresses are the definitions of R115 written out, the page-cross test is `pageCross_eq`. -/
theorem effectiveAddressOfEveryMode : Obligations.EffectiveAddressOfEveryMode := by
  unfold Obligations.EffectiveAddressOfEveryMode
  intro s op1 op2
  refine ⟨rfl, rfl, rfl, rfl, rfl, rfl, rfl, rfl, rfl, ?_, ?_⟩ <;> simp only [List.forall_mem_cons]
  · exact ⟨pageCross_eq _ _ _, pageCross_eq _ _ _, pageCross_eq _ _ _, nofun⟩
  · exact ⟨rfl, rfl, rfl, rfl, rfl, rfl, nofun⟩

/-! ## The step at a boundary -/

theorem State.latchInputs_eq (s : State) : s.latchInputs = { s with
    nmiPending := s.host.latch.nmiPending, irqLine := s.host.latch.irqLine, inputs := s.host.latch.inputs } := by
  obtain ⟨r, pc, mem, nmi, irq, svc, run, t, seq, lat, cyc, bus, events, inputs, cfg⟩ := s
  cases inputs with
  | nil => simp [State.latchInputs, State.host, HostView.latch, State.withIrqLine]
  | cons x xs => rfl

theorem recognise_latchInputs_eq_none {s : State} (hn : s.nmiDue = false) (hi : s.irqDue = false) :
    recognise s.latchInputs = none := by
  rw [State.nmiDue] at hn
  rw [State.irqDue] at hi
  simp [recognise_eq, hn, hi]

theorem encode_length_le (i : Instr) : (encode i).length ≤ 3 := by
  obtain ⟨hlen, -⟩ := Laws.EncodedForm.ofInstr i
  rw [hlen, Instr.length]
  cases i.mode <;> decide

/-- Where the bytes of an instruction stand at PC, the instruction stream begins with them. -/
theorem take_streamBytes {s : State} {i : Instr} (h : s.holds i) :
    (streamBytes s).take (encode i).length = encode i := by
  have hle := encode_length_le i
  refine List.ext_getElem (by simpa [streamBytes] using hle) fun k _ hk => ?_
  have hb := h k hk
  rw [List.getD_eq_getElem _ _ hk] at hb
  rw [List.getElem_take, ← hb]
  obtain rfl | rfl | rfl : k = 0 ∨ k = 1 ∨ k = 2 := by omega
  · exact congrArg s.memRead (BitVec.add_zero s.pc).symm
  · rfl
  · rfl

theorem fetchExecute_of_holds {s : State} {i : Instr} (h : s.holds i) (hw : i.wellFormed s.cfg.caps = true) :
    fetchExecute s = exec i s := by
  have hstream := List.take_append_drop (encode i).length (streamBytes s)
  rw [take_streamBytes h] at hstream
  rw [fetchExecute, decode_eq_ok_iff.mpr ⟨hstream.symm, hw⟩]

theorem holds_latchInputs {s : State} {i : Instr} (h : s.holds i) : s.latchInputs.holds i := by
  intro k hk
  rw [State.latchInputs_pc, State.memRead_congr s.latchInputs_mem s.latchInputs_cfg]
  exact h k hk

/-- Settles O46: no interrupt is recognised, so the step decodes the bytes at PC, which are those of `i`. -/
theorem stepRunsDecodedInstruction : Obligations.StepRunsDecodedInstruction := by
  unfold Obligations.StepRunsDecodedInstruction
  rintro s i ⟨hr, ht⟩ hn hi hw h
  refine ⟨?_, s.latchInputs_eq⟩
  rw [step_boundary hr ht, boundaryStep_fetch (recognise_latchInputs_eq_none hn hi)]
  exact fetchExecute_of_holds (holds_latchInputs h) (by simpa using hw)

end Sys2Proof.Machine
end

section
/-! PROOF of O13 to O16, loads, stores and transfers (41_load_store_transfer.md R171 to R183). Each form of a mnemonic is
the lemma of its cycle template (`readForm`, `storeForm` and their like), which says of any opcode with that micro-op
program what it leaves. What a lemma asks of the opcode stands in the tables: its value, its program, and the operand
bytes of its encoding. These hold by definition, and they are the subgoals that `intros` and `rfl` close. -/

namespace Sys2Proof.Machine

/-- Settles O13: the nine programs of LDA inject `opLda` into T_IMM and the read templates. -/
theorem ldaLoadsAndSetsNZ : Obligations.LdaLoadsAndSetsNZ := by
  unfold Obligations.LdaLoadsAndSetsNZ
  refine ⟨immForm ?_ ?_ ?_, readForm ?_ ?_ ?_ ?_, readForm ?_ ?_ ?_ ?_, readForm2 ?_ ?_ ?_ ?_, readForm2 ?_ ?_ ?_ ?_,
    readForm2 ?_ ?_ ?_ ?_, readForm ?_ ?_ ?_ ?_, readForm ?_ ?_ ?_ ?_, readForm ?_ ?_ ?_ ?_⟩ <;> intros <;> rfl

/-- Settles O14: the programs of LDX inject `opLdx` into the modes indexed by Y, those of LDY `opLdy` into the modes
indexed by X. -/
theorem ldxLdyLoadAndSetNZ : Obligations.LdxLdyLoadAndSetNZ := by
  unfold Obligations.LdxLdyLoadAndSetNZ
  refine ⟨
    -- LDX
    immForm ?_ ?_ ?_, readForm ?_ ?_ ?_ ?_, readForm ?_ ?_ ?_ ?_, readForm2 ?_ ?_ ?_ ?_, readForm2 ?_ ?_ ?_ ?_,
    -- LDY
    immForm ?_ ?_ ?_, readForm ?_ ?_ ?_ ?_, readForm ?_ ?_ ?_ ?_, readForm2 ?_ ?_ ?_ ?_, readForm2 ?_ ?_ ?_ ?_⟩ <;>
    intros <;> rfl

/-- Settles O15: the programs of STA, STX, STY and STZ are store templates of A, X, Y and `zeroByte`. -/
theorem storesWriteOneByte : Obligations.StoresWriteOneByte := by
  unfold Obligations.StoresWriteOneByte
  refine ⟨
    -- STA
    storeForm ?_ ?_ ?_ ?_, storeForm ?_ ?_ ?_ ?_, storeForm2 ?_ ?_ ?_ ?_, storeForm2 ?_ ?_ ?_ ?_,
    storeForm2 ?_ ?_ ?_ ?_, storeForm ?_ ?_ ?_ ?_, storeForm ?_ ?_ ?_ ?_, storeForm ?_ ?_ ?_ ?_,
    -- STX
    storeForm ?_ ?_ ?_ ?_, storeForm ?_ ?_ ?_ ?_, storeForm2 ?_ ?_ ?_ ?_,
    -- STY
    storeForm ?_ ?_ ?_ ?_, storeForm ?_ ?_ ?_ ?_, storeForm2 ?_ ?_ ?_ ?_,
    -- STZ
    storeForm ?_ ?_ ?_ ?_, storeForm ?_ ?_ ?_ ?_, storeForm2 ?_ ?_ ?_ ?_, storeForm2 ?_ ?_ ?_ ?_⟩ <;> intros <;> rfl

/-- Settles O16: each transfer is T_IMP with the register copy injected. -/
theorem transfersCopyRegisters : Obligations.TransfersCopyRegisters := by
  unfold Obligations.TransfersCopyRegisters
  exact ⟨impForm rfl rfl, impForm rfl rfl, impForm rfl rfl, impForm rfl rfl, impForm rfl rfl, impForm rfl rfl⟩

end Sys2Proof.Machine
end

section
/-! PROOF of O17 and O18, the stack instructions (42_stack.md R201 to R208). Each is the lemma of its cycle template,
`pushForm` or `pullForm`; the opcode and the program that these ask for stand in the tables. -/

namespace Sys2Proof.Machine

/-- Settles O17: the programs are T_PUSH of A, X, Y and `pushedStatus`, which is P packed with B = 1. -/
theorem pushesStoreAtTheStackPointer : Obligations.PushesStoreAtTheStackPointer := by
  unfold Obligations.PushesStoreAtTheStackPointer
  exact ⟨pushForm rfl rfl, pushForm rfl rfl, pushForm rfl rfl, pushForm rfl rfl⟩

/-- Settles O18: the programs are T_PULL with the loads of A, X, Y injected, and for PLP with `unpackP`, which takes the
six flags from the byte. -/
theorem pullsLoadFromTheStack : Obligations.PullsLoadFromTheStack := by
  unfold Obligations.PullsLoadFromTheStack
  exact ⟨pullForm rfl rfl, pullForm rfl rfl, pullForm rfl rfl, pullForm rfl rfl⟩

end Sys2Proof.Machine
end

section
/-! PROOF of O19 to O27, arithmetic, logic, compare and bit test (43_alu.md R220 to R232). What an operation writes is
proved of the adders `adcBinary`, `sbcBinary`, `adcDecimal` and `sbcDecimal`, by arithmetic on the values of the bytes;
each opcode with its addressing mode is then the lemma of its cycle template, as for the loads. -/

namespace Sys2Proof.Machine

/-! ## The values of bytes -/

theorem toInt_eq_signed8 (v : Byte) : v.toInt = signed8 v.toNat := by
  rw [BitVec.toInt_eq_toNat_cond, signed8]
  have hv := v.isLt
  split_ifs <;> omega

theorem bitOf_seven_eq_decide (v : Byte) : bitOf v 7 = decide (0x80 ≤ v.toNat) := v.msb_eq_decide

/-- The exclusive or of R223 is the one's complement. -/
theorem toNat_xor_ones (m : Byte) : (m ^^^ 0xFF#8).toNat = 255 - m.toNat := by
  rw [show m ^^^ 0xFF#8 = ~~~m from BitVec.xor_allOnes, BitVec.toNat_not]

theorem toInt_xor_ones (m : Byte) : (m ^^^ 0xFF#8).toInt = -1 - m.toInt := by
  have hm := m.isLt
  rw [toInt_eq_signed8, toInt_eq_signed8, toNat_xor_ones, signed8, signed8]
  split_ifs <;> omega

theorem toNat_and_lowDigit (v : Byte) : (v &&& 0x0F#8).toNat = v.toNat % 16 := by
  rw [BitVec.toNat_and]
  exact Nat.and_two_pow_sub_one_eq_mod v.toNat 4

theorem toNat_and_highDigit (v : Byte) : (v &&& 0xF0#8).toNat = v.toNat / 16 * 16 := by
  have hshift : v &&& 0xF0#8 = v >>> 4 <<< 4 := (BitVec.shiftLeft_ushiftRight (x := v) (n := 4)).symm
  have hv := v.isLt
  rw [hshift, BitVec.toNat_shiftLeft, BitVec.toNat_ushiftRight, Nat.shiftRight_eq_div_pow, Nat.shiftLeft_eq]
  omega

/-! ## The binary adder (43_alu.md R221, R223, R232) -/

theorem adcBinary_carry_iff (a m : Byte) (c : Bool) :
    (adcBinary a m c).carry = true ↔ 255 < a.toNat + m.toNat + c.toNat := by
  rw [adcBinary, decide_eq_true_iff]
  omega

/-- The carry out is bit 8 of the sum, which has 9 bits. -/
theorem testBit_eight_eq_carry (a m : Byte) (c : Bool) :
    (a.toNat + m.toNat + c.toNat).testBit 8 = (adcBinary a m c).carry := by
  have ha := a.isLt
  have hm := m.isLt
  have hc := c.toNat_le
  rw [Bool.eq_iff_iff, adcBinary_carry_iff, Nat.testBit_eq_decide_div_mod_eq, decide_eq_true_iff]
  omega

/-- V says that both operands have the other sign than the result; the split is on the signs of the operands. -/
theorem adcBinary_overflow_iff (a m : Byte) (c : Bool) :
    (adcBinary a m c).overflow = true ↔
      a.toInt + m.toInt + c.toNat < -128 ∨ 127 < a.toInt + m.toInt + c.toNat := by
  have ha := a.isLt
  have hm := m.isLt
  have hc := c.toNat_le
  have hsigns (r : Byte) :
      bitOf ((a ^^^ r) &&& (m ^^^ r)) 7 = true ↔ bitOf a 7 ≠ bitOf r 7 ∧ bitOf m 7 ≠ bitOf r 7 := by
    simp only [bitOf, BitVec.getLsbD_and, BitVec.getLsbD_xor, Bool.and_eq_true, bne_iff_ne]
  rw [adcBinary, hsigns]
  simp only [bitOf_seven_eq_decide, ne_eq, decide_eq_decide, toInt_eq_signed8, signed8, BitVec.toNat_ofNat]
  split_ifs <;> omega

theorem sbcBinary_carry_iff (a m : Byte) (c : Bool) :
    (sbcBinary a m c).carry = true ↔ m.toNat + (1 - c.toNat) ≤ a.toNat := by
  have hm := m.isLt
  have hc := c.toNat_le
  rw [sbcBinary, adcBinary_carry_iff, toNat_xor_ones]
  omega

theorem sbcBinary_overflow_iff (a m : Byte) (c : Bool) :
    (sbcBinary a m c).overflow = true ↔
      a.toInt - m.toInt - (1 - c.toNat : Int) < -128 ∨ 127 < a.toInt - m.toInt - (1 - c.toNat : Int) := by
  rw [sbcBinary, adcBinary_overflow_iff, toInt_xor_ones]
  omega

theorem sbcBinary_value (a m : Byte) (c : Bool) :
    (sbcBinary a m c).value = a - m - BitVec.ofNat 8 (1 - c.toNat) := by
  have ha := a.isLt
  have hm := m.isLt
  have hc := c.toNat_le
  apply BitVec.eq_of_toNat_eq
  simp only [sbcBinary, adcBinary, toNat_xor_ones, BitVec.toNat_sub, BitVec.toNat_ofNat]
  omega

/-- Settles O21: SBC by ADC of the one's complement, whose signed value is `-1 - m`. -/
theorem carryAndOverflowMeanWhatTheySay : Obligations.CarryAndOverflowMeanWhatTheySay := by
  unfold Obligations.CarryAndOverflowMeanWhatTheySay
  exact fun a m c => ⟨adcBinary_carry_iff a m c, adcBinary_overflow_iff a m c, sbcBinary_carry_iff a m c,
    sbcBinary_overflow_iff a m c, sbcBinary_value a m c⟩

/-! ## The operations in each mode -/

theorem aluWrite_eq (res : AluResult) (r : Regs) : aluWrite res r =
    { r with
      a := res.value
      p :=
        { n := res.value.getLsbD 7, v := res.overflow, d := r.p.d, i := r.p.i, z := res.value == 0#8,
          c := res.carry } } := rfl

theorem opAdc_binary {r : Regs} (hd : ¬r.p.d = true) (m : Byte) :
    opAdc m r = aluWrite (adcBinary r.a m r.p.c) r := if_neg hd

theorem opSbc_binary {r : Regs} (hd : ¬r.p.d = true) (m : Byte) :
    opSbc m r = aluWrite (sbcBinary r.a m r.p.c) r := if_neg hd

theorem opAdc_decimal {m : Byte} {r : Regs} (hd : r.p.d = true) (ha : isBcd r.a = true) (hm : isBcd m = true) :
    opAdc m r = aluWrite (adcDecimal r.a m r.p.c) r := by simp [opAdc, hd, ha, hm]

theorem opSbc_decimal {m : Byte} {r : Regs} (hd : r.p.d = true) (ha : isBcd r.a = true) (hm : isBcd m = true) :
    opSbc m r = aluWrite (sbcDecimal r.a m r.p.c) r := by simp [opSbc, hd, ha, hm]

theorem opAdc_invalid {m : Byte} {r : Regs} (hd : r.p.d = true) (h : ¬(isBcd r.a = true ∧ isBcd m = true)) :
    opAdc m r = freeWrite (Config.freeDecimalAdc r.a m (packP r.p true)) r := by
  rw [opAdc, if_pos hd, if_neg (by rwa [Bool.and_eq_true])]

theorem opSbc_invalid {m : Byte} {r : Regs} (hd : r.p.d = true) (h : ¬(isBcd r.a = true ∧ isBcd m = true)) :
    opSbc m r = freeWrite (Config.freeDecimalSbc r.a m (packP r.p true)) r := by
  rw [opSbc, if_pos hd, if_neg (by rwa [Bool.and_eq_true])]

/-- Settles O24: the write-back of a free value keeps D, which is 1. -/
theorem invalidDecimalIsAFreeValue : Obligations.InvalidDecimalIsAFreeValue := by
  unfold Obligations.InvalidDecimalIsAFreeValue
  intro m r hd h
  exact ⟨by simp only [opAdc_invalid hd h, freeWrite, hd], by simp only [opSbc_invalid hd h, freeWrite, hd]⟩

/-- Settles O19: where D = 0 the sum is that of R221, whose bit 8 is the carry; the nine programs inject `opAdc`. -/
theorem adcAddsWithCarry : Obligations.AdcAddsWithCarry := by
  unfold Obligations.AdcAddsWithCarry
  intro f
  have hf : opAdc = f := by
    funext m r
    by_cases hd : r.p.d = true
    · exact (if_pos hd).symm
    · simp only [f, if_neg hd, opAdc_binary hd, testBit_eight_eq_carry]
      rfl
  rw [← hf]
  refine ⟨decImmForm ?_ ?_ ?_, decReadForm ?_ ?_ ?_ ?_, decReadForm ?_ ?_ ?_ ?_, decReadForm2 ?_ ?_ ?_ ?_,
    decReadForm2 ?_ ?_ ?_ ?_, decReadForm2 ?_ ?_ ?_ ?_, decReadForm ?_ ?_ ?_ ?_, decReadForm ?_ ?_ ?_ ?_,
    decReadForm ?_ ?_ ?_ ?_⟩ <;> intros <;> rfl

/-- Settles O20: the same with the one's complement of M. -/
theorem sbcSubtractsWithBorrow : Obligations.SbcSubtractsWithBorrow := by
  unfold Obligations.SbcSubtractsWithBorrow
  intro f
  have hf : opSbc = f := by
    funext m r
    by_cases hd : r.p.d = true
    · exact (if_pos hd).symm
    · simp only [f, if_neg hd, opSbc_binary hd, testBit_eight_eq_carry]
      rfl
  rw [← hf]
  refine ⟨decImmForm ?_ ?_ ?_, decReadForm ?_ ?_ ?_ ?_, decReadForm ?_ ?_ ?_ ?_, decReadForm2 ?_ ?_ ?_ ?_,
    decReadForm2 ?_ ?_ ?_ ?_, decReadForm2 ?_ ?_ ?_ ?_, decReadForm ?_ ?_ ?_ ?_, decReadForm ?_ ?_ ?_ ?_,
    decReadForm ?_ ?_ ?_ ?_⟩ <;> intros <;> rfl

/-! ## Decimal mode on BCD operands (43_alu.md R222, R224) -/

theorem isBcd_iff (v : Byte) : isBcd v = true ↔ v.toNat % 16 < 10 ∧ v.toNat / 16 < 10 := by
  rw [isBcd, Bool.and_eq_true, decide_eq_true_iff, decide_eq_true_iff]

/-- Settles O23: masking a digit is taking the value of its nibble, which is how the adders write the formulas. -/
theorem decimalResultsFollowTheFormulas : Obligations.DecimalResultsFollowTheFormulas := by
  unfold Obligations.DecimalResultsFollowTheFormulas
  intro m r hd hal hah hml hmh
  have ha : isBcd r.a = true := (isBcd_iff _).mpr ⟨hal, hah⟩
  have hm : isBcd m = true := (isBcd_iff _).mpr ⟨hml, hmh⟩
  have hmask : ∀ n : Nat, n &&& 0x0F = n % 16 := fun n => Nat.and_two_pow_sub_one_eq_mod n 4
  constructor
  · simp only [opAdc_decimal hd ha hm, toInt_eq_signed8, toNat_and_lowDigit, toNat_and_highDigit, hmask, Bool.decide_or]
    rfl
  · simp only [opSbc_decimal hd ha hm, testBit_eight_eq_carry, toNat_and_lowDigit]
    rfl

/-! Packed BCD bytes by their digits. -/

/-- The packed BCD of a number below 100. -/
def bcdByte (n : Nat) : Byte := BitVec.ofNat 8 (n / 10 * 16 + n % 10)

theorem toNat_bcdByte {n : Nat} (h : n < 100) : (bcdByte n).toNat = n / 10 * 16 + n % 10 := by
  rw [bcdByte, BitVec.toNat_ofNat]
  omega

theorem isBcd_bcdByte {n : Nat} (h : n < 100) : isBcd (bcdByte n) = true := by
  rw [isBcd_iff, toNat_bcdByte h]
  omega

theorem bcdByte_lowDigit {n : Nat} (h : n < 100) : (bcdByte n).toNat % 16 = n % 10 := by
  rw [toNat_bcdByte h]
  omega

theorem bcdByte_highDigit {n : Nat} (h : n < 100) : (bcdByte n).toNat / 16 = n / 10 := by
  rw [toNat_bcdByte h]
  omega

/-- A byte is the packed BCD of `n` modulo 100 by the digits of `n`, of which the high one may be 10 or more. -/
theorem eq_bcdByte_mod {v : Byte} {n h l : Nat} (hl : l < 10) (hn : n % 100 = (10 * h + l) % 100)
    (hv : v.toNat = 16 * (h % 10) + l) : v = bcdByte (n % 100) := by
  apply BitVec.eq_of_toNat_eq
  rw [hv, toNat_bcdByte (Nat.mod_lt _ (by decide)), hn]
  omega

section
variable {x y : Nat} (hx : x < 100) (hy : y < 100) (c : Bool)
include hx hy

/-- The digit sum `h` of the high digits and the carry of the low ones, and the low digit `l`, of a decimal ADC. -/
theorem adcDigits_bcdByte : ∃ h l, h < 20 ∧ l < 10 ∧ x + y + c.toNat = 10 * h + l ∧
    x / 10 * 16 + y / 10 * 16 + adcLowDigit (bcdByte x) (bcdByte y) c = 16 * h + l := by
  have hc := c.toNat_le
  refine ⟨x / 10 + y / 10 + (x % 10 + y % 10 + c.toNat) / 10, (x % 10 + y % 10 + c.toNat) % 10, ?_, ?_, ?_, ?_⟩
  case refine_4 =>
    simp only [adcLowDigit, bcdByte_lowDigit hx, bcdByte_lowDigit hy]
    split_ifs <;> omega
  all_goals omega

/-- A high digit sum of 10 or more goes into bit 8 as $60 is added. -/
theorem adcDecimal_bcdByte :
    (adcDecimal (bcdByte x) (bcdByte y) c).value = bcdByte ((x + y + c.toNat) % 100) ∧
    (adcDecimal (bcdByte x) (bcdByte y) c).carry = decide (99 < x + y + c.toNat) := by
  obtain ⟨h, l, hh, hl, hsum, hlow⟩ := adcDigits_bcdByte hx hy c
  simp only [adcDecimal, bcdByte_highDigit hx, bcdByte_highDigit hy, hlow, hsum]
  constructor
  · refine eq_bcdByte_mod hl rfl ?_
    rw [BitVec.toNat_ofNat]
    split_ifs <;> omega
  · rw [decide_eq_decide]
    split_ifs <;> omega

/-- The digits `h`, raised by 10, and `l` of a decimal SBC: the low difference is `l` without a borrow; with one it is
`l - 10`, and the binary difference, which borrows 16, is 6 too large. -/
theorem sbcDigits_bcdByte : ∃ h l : Nat, h < 20 ∧ l < 10 ∧ 100 + x - y - (1 - c.toNat) = 10 * h + l ∧
    ((((bcdByte x).toNat % 16 : Int) - (bcdByte y).toNat % 16 + c.toNat - 1 = l ∧
        ((bcdByte x).toNat : Int) - (bcdByte y).toNat + c.toNat - 1 = 16 * (h - 10) + l) ∨
      (((bcdByte x).toNat % 16 : Int) - (bcdByte y).toNat % 16 + c.toNat - 1 = l - 10 ∧
        ((bcdByte x).toNat : Int) - (bcdByte y).toNat + c.toNat - 1 = 16 * (h - 10) + l + 6)) := by
  have hc := c.toNat_le
  rw [toNat_bcdByte hx, toNat_bcdByte hy]
  by_cases hb : x % 10 + c.toNat < y % 10 + 1
  · exact ⟨9 + x / 10 - y / 10, 9 + x % 10 + c.toNat - y % 10, by omega, by omega, by omega, .inr (by omega)⟩
  · exact ⟨10 + x / 10 - y / 10, x % 10 + c.toNat - 1 - y % 10, by omega, by omega, by omega, .inl (by omega)⟩

theorem sbcDecimal_bcdByte_value :
    (sbcDecimal (bcdByte x) (bcdByte y) c).value = bcdByte ((100 + x - y - (1 - c.toNat)) % 100) := by
  obtain ⟨h, l, hh, hl, hdif, hd⟩ := sbcDigits_bcdByte hx hy c
  refine eq_bcdByte_mod hl (by rw [hdif]) ?_
  simp only [sbcDecimal, BitVec.toNat_ofInt]
  rcases hd with ⟨hal, hs⟩ | ⟨hal, hs⟩ <;> rw [hal, hs]
  all_goals split_ifs <;> omega

/-- The order of numbers below 100 is that of their packed BCD, so the binary borrow is the decimal one. -/
theorem sbcDecimal_bcdByte_carry :
    (sbcDecimal (bcdByte x) (bcdByte y) c).carry = decide (y + (1 - c.toNat) ≤ x) := by
  have hc := c.toNat_le
  rw [Bool.eq_iff_iff, sbcDecimal, sbcBinary_carry_iff, decide_eq_true_iff, toNat_bcdByte hx, toNat_bcdByte hy]
  omega

end

/-- Settles O22: the write-back of the adders' values and carries on packed BCD bytes. -/
theorem decimalResultsAreDecimalArithmetic : Obligations.DecimalResultsAreDecimalArithmetic := by
  unfold Obligations.DecimalResultsAreDecimalArithmetic
  intro bcd x y r hx hy hd ha
  have hbcd : bcd = bcdByte := rfl
  simp only [hbcd] at ha ⊢
  have hx' : isBcd r.a = true := ha ▸ isBcd_bcdByte hx
  obtain ⟨hsum, hcarry⟩ := adcDecimal_bcdByte hx hy r.p.c
  constructor
  · simp only [opAdc_decimal hd hx' (isBcd_bcdByte hy), aluWrite_eq, ha, hsum, hcarry, hd]
  · simp only [opSbc_decimal hd hx' (isBcd_bcdByte hy), aluWrite_eq, ha, sbcDecimal_bcdByte_value hx hy,
      sbcDecimal_bcdByte_carry hx hy, hd]
    rfl

/-! ## Logic, compare and bit test -/

/-- Settles O25: the programs inject `opAnd`, `opOra` and `opEor`. -/
theorem logicOperationsSetNZ : Obligations.LogicOperationsSetNZ := by
  unfold Obligations.LogicOperationsSetNZ
  refine ⟨
    -- AND
    immForm ?_ ?_ ?_, readForm ?_ ?_ ?_ ?_, readForm ?_ ?_ ?_ ?_, readForm2 ?_ ?_ ?_ ?_, readForm2 ?_ ?_ ?_ ?_,
    readForm2 ?_ ?_ ?_ ?_, readForm ?_ ?_ ?_ ?_, readForm ?_ ?_ ?_ ?_, readForm ?_ ?_ ?_ ?_,
    -- ORA
    immForm ?_ ?_ ?_, readForm ?_ ?_ ?_ ?_, readForm ?_ ?_ ?_ ?_, readForm2 ?_ ?_ ?_ ?_, readForm2 ?_ ?_ ?_ ?_,
    readForm2 ?_ ?_ ?_ ?_, readForm ?_ ?_ ?_ ?_, readForm ?_ ?_ ?_ ?_, readForm ?_ ?_ ?_ ?_,
    -- EOR
    immForm ?_ ?_ ?_, readForm ?_ ?_ ?_ ?_, readForm ?_ ?_ ?_ ?_, readForm2 ?_ ?_ ?_ ?_, readForm2 ?_ ?_ ?_ ?_,
    readForm2 ?_ ?_ ?_ ?_, readForm ?_ ?_ ?_ ?_, readForm ?_ ?_ ?_ ?_, readForm ?_ ?_ ?_ ?_⟩ <;> intros <;> rfl

/-- Settles O26: the programs inject `opCmp`, `opCpx` and `opCpy`. -/
theorem comparesSetNZAndCarry : Obligations.ComparesSetNZAndCarry := by
  unfold Obligations.ComparesSetNZAndCarry
  refine ⟨
    -- CMP
    immForm ?_ ?_ ?_, readForm ?_ ?_ ?_ ?_, readForm ?_ ?_ ?_ ?_, readForm2 ?_ ?_ ?_ ?_, readForm2 ?_ ?_ ?_ ?_,
    readForm2 ?_ ?_ ?_ ?_, readForm ?_ ?_ ?_ ?_, readForm ?_ ?_ ?_ ?_, readForm ?_ ?_ ?_ ?_,
    -- CPX
    immForm ?_ ?_ ?_, readForm ?_ ?_ ?_ ?_, readForm2 ?_ ?_ ?_ ?_,
    -- CPY
    immForm ?_ ?_ ?_, readForm ?_ ?_ ?_ ?_, readForm2 ?_ ?_ ?_ ?_⟩ <;> intros <;> rfl

/-- Settles O27: the memory forms inject `opBit`, the immediate form `opBitImm`. -/
theorem bitTestsTheOperand : Obligations.BitTestsTheOperand := by
  unfold Obligations.BitTestsTheOperand
  refine ⟨immForm ?_ ?_ ?_, readForm ?_ ?_ ?_ ?_, readForm ?_ ?_ ?_ ?_, readForm2 ?_ ?_ ?_ ?_,
    readForm2 ?_ ?_ ?_ ?_⟩ <;> intros <;> rfl

end Sys2Proof.Machine
end

section
/-! PROOF of O28 to O32, shifts, increments and memory bits (44_rmw.md R251 to R264). The `acc` forms are T_IMP with the
pair of result and flags injected on A (`impForm`), the memory forms are the read-modify-write templates (`modifyForm`,
`absModifyForm`, `abxModifyForm`). Without BITOPS the decoder refuses the encoding of every
instruction of that group (`decode_encode_groupAbsent`). -/

namespace Sys2Proof

/-- The first byte of an encoding is the opcode. -/
theorem encode_eq_opcodeOf_cons (i : Instr) : ∃ bytes, encode i = opcodeOf i :: bytes := by
  obtain ⟨-, -, f, hf, hb⟩ := Laws.EncodedForm.ofInstr i
  have henc := (opcodeForm_fits hf).encode i.op1 i.op2
  rw [show f.build i.op1 i.op2 = i from hb] at henc
  exact ⟨_, henc⟩

/-- The decoder refuses the encoding of an instruction whose capability group is not in CAPS (30_encoding.md R89). -/
theorem decode_encode_groupAbsent {caps : Caps} {i : Instr} (h : caps.has i.group = false) (rest : List Byte) :
    decode caps (encode i ++ rest) = .rejected (.groupAbsent (opcodeOf i) i.group) := by
  obtain ⟨bytes, henc⟩ := encode_eq_opcodeOf_cons i
  obtain ⟨-, hgroup, -⟩ := Laws.EncodedForm.ofInstr i
  have hbase : i.group ≠ .base := fun hb => by simp [hb, Caps.has] at h
  rw [henc, List.cons_append, decode_cons_eq_groupAbsent_iff hbase]
  exact ⟨hgroup, h⟩

end Sys2Proof

namespace Sys2Proof.Machine

/-- The carry as a byte: the operand of a rotate. -/
theorem setWidth_ofBool (c : Bool) : (BitVec.ofBool c).setWidth 8 = BitVec.ofNat 8 c.toNat := by
  rw [← BitVec.ofNat_toNat, BitVec.toNat_ofBool]

section
variable {op : Byte} {mk : Byte → Byte → Instr} {res : Byte → Regs → Byte} {fl : Byte → Regs → Flags}
  (ho : ∀ lo hi, opcodeOf (mk lo hi) = op) (h1 : ∀ lo hi, (mk lo hi).op1 = lo) (h2 : ∀ lo hi, (mk lo hi).op2 = hi)
include ho h1 h2

/-- T_ABS_M, 6 cycles (R128). -/
theorem absModifyForm (hp : ∀ lo hi, program (mk lo hi) = .modify .abs false res fl) :
    ModifyForm2 op .abs mk res fl (fun _ => 6) :=
  modifyForm2 ho hp h1 h2 fun _ _ _ => rfl

/-- T_ABX_M: the indexing cycle is there when the page is crossed (R131). -/
theorem abxModifyForm (hp : ∀ lo hi, program (mk lo hi) = .modify .abx false res fl) :
    ModifyForm2 op .abx mk res fl (fun p => 6 + p.toNat) := by
  refine modifyForm2 ho hp h1 h2 fun s lo hi => ?_
  have hlen := lastAddressCycle_eq s (mk lo hi) .abx false
  have hcount : ∀ cross, lastAddressCycle .abx false cross = 3 + cross.toNat := by decide
  rw [h1, hcount] at hlen
  omega

/-- T_ABX_M7: the indexing cycle is there always (R132). -/
theorem abxModifyForm_always (hp : ∀ lo hi, program (mk lo hi) = .modify .abx true res fl) :
    ModifyForm2 op .abx mk res fl (fun _ => 7) := by
  refine modifyForm2 ho hp h1 h2 fun s lo hi => ?_
  have hlen := lastAddressCycle_eq s (mk lo hi) .abx true
  have hcount : ∀ cross, lastAddressCycle .abx true cross = 4 := by decide
  rw [hcount] at hlen
  omega

end

/-- Settles O28: the programs inject the shift or rotate and its flags; a rotate takes in the carry as a byte. -/
theorem shiftsAndRotatesMoveOneBit : Obligations.ShiftsAndRotatesMoveOneBit := by
  unfold Obligations.ShiftsAndRotatesMoveOneBit
  simp only [setWidth_ofBool]
  refine ⟨
    -- ASL
    impForm ?_ ?_, modifyForm ?_ ?_ ?_ ?_ ?_, modifyForm ?_ ?_ ?_ ?_ ?_, absModifyForm ?_ ?_ ?_ ?_,
    abxModifyForm ?_ ?_ ?_ ?_,
    -- LSR
    impForm ?_ ?_, modifyForm ?_ ?_ ?_ ?_ ?_, modifyForm ?_ ?_ ?_ ?_ ?_, absModifyForm ?_ ?_ ?_ ?_,
    abxModifyForm ?_ ?_ ?_ ?_,
    -- ROL
    impForm ?_ ?_, modifyForm ?_ ?_ ?_ ?_ ?_, modifyForm ?_ ?_ ?_ ?_ ?_, absModifyForm ?_ ?_ ?_ ?_,
    abxModifyForm ?_ ?_ ?_ ?_,
    -- ROR
    impForm ?_ ?_, modifyForm ?_ ?_ ?_ ?_ ?_, modifyForm ?_ ?_ ?_ ?_ ?_, absModifyForm ?_ ?_ ?_ ?_,
    abxModifyForm ?_ ?_ ?_ ?_⟩ <;> intros <;> rfl

/-- Settles O29: the programs at `abx` are T_ABX_M7, whose indexing cycle does not ask for a page cross. -/
theorem incDecWrapAndSetNZ : Obligations.IncDecWrapAndSetNZ := by
  unfold Obligations.IncDecWrapAndSetNZ
  refine ⟨
    -- INC
    impForm ?_ ?_, modifyForm ?_ ?_ ?_ ?_ ?_, modifyForm ?_ ?_ ?_ ?_ ?_, absModifyForm ?_ ?_ ?_ ?_,
    abxModifyForm_always ?_ ?_ ?_ ?_,
    -- DEC
    impForm ?_ ?_, modifyForm ?_ ?_ ?_ ?_ ?_, modifyForm ?_ ?_ ?_ ?_ ?_, absModifyForm ?_ ?_ ?_ ?_,
    abxModifyForm_always ?_ ?_ ?_ ?_⟩ <;> intros <;> rfl

/-- Settles O30: each is T_IMP with the operation on X or Y injected. -/
theorem indexIncDecWrapAndSetNZ : Obligations.IndexIncDecWrapAndSetNZ := by
  unfold Obligations.IndexIncDecWrapAndSetNZ
  exact ⟨impForm rfl rfl, impForm rfl rfl, impForm rfl rfl, impForm rfl rfl⟩

/-- Settles O31: result and flags of the programs are both taken from the byte before the write. -/
theorem tsbTrbTestThenWrite : Obligations.TsbTrbTestThenWrite := by
  unfold Obligations.TsbTrbTestThenWrite
  refine ⟨
    -- TSB
    modifyForm ?_ ?_ ?_ ?_ ?_, absModifyForm ?_ ?_ ?_ ?_,
    -- TRB
    modifyForm ?_ ?_ ?_ ?_ ?_, absModifyForm ?_ ?_ ?_ ?_⟩ <;> intros <;> rfl

/-- Settles O32: the programs inject the mask of bit n into T_ZP_M, and all sixteen are of the group BITOPS. -/
theorem rmbSmbWriteOneBit : Obligations.RmbSmbWriteOneBit := by
  unfold Obligations.RmbSmbWriteOneBit
  intro rr rs f rmb smb n mk
  refine ⟨fun h => ?_, fun h => ?_, fun h caps z rest hcaps => ?_⟩
  · rcases n with _ | _ | _ | _ | _ | _ | _ | _ | n <;> cases h
    all_goals exact modifyForm (fun _ => rfl) (fun _ => rfl) (fun _ => rfl) (fun _ => rfl) fun _ _ => rfl
  · rcases n with _ | _ | _ | _ | _ | _ | _ | _ | n <;> cases h
    all_goals exact modifyForm (fun _ => rfl) (fun _ => rfl) (fun _ => rfl) (fun _ => rfl) fun _ _ => rfl
  · have hgroup : (mk z).group = .bitops := by fin_cases h <;> rfl
    have habsent : caps.has (mk z).group = false := by rw [hgroup, Caps.has, hcaps]
    exact ⟨opcodeOf (mk z), hgroup ▸ decode_encode_groupAbsent habsent rest⟩

end Sys2Proof.Machine
end

section
/-! PROOF of O33 to O38, branches, jumps and subroutines (45_branch_jump.md R280 to R297). The branches are the lemmas
of their cycle templates (`branchForm`, `bitBranchForm`); the jumps, JSR and RTS are the runs of their own programs
(`completes_of_run`). A subroutine returns because RTS reads back the two bytes that JSR pushed
(`readByte_pushed_first`, `readByte_pushed_second`). -/

namespace Sys2Proof.Machine

/-! ## Branches -/

/-- Settles O33: the program of each branch is T_REL with the test of its flag. -/
theorem branchesTestOneFlag : Obligations.BranchesTestOneFlag := by
  unfold Obligations.BranchesTestOneFlag
  refine ⟨branchForm ?_ ?_ ?_, branchForm ?_ ?_ ?_, branchForm ?_ ?_ ?_, branchForm ?_ ?_ ?_, branchForm ?_ ?_ ?_,
    branchForm ?_ ?_ ?_, branchForm ?_ ?_ ?_, branchForm ?_ ?_ ?_, branchForm ?_ ?_ ?_⟩ <;> intros <;> rfl

/-- Settles O34: the programs are T_ZPREL with the number and the sense of the bit, and all sixteen are of the group
BITOPS. -/
theorem bitBranchesTestOneBit : Obligations.BitBranchesTestOneBit := by
  unfold Obligations.BitBranchesTestOneBit
  intro bbr bbs n mk
  refine ⟨fun h => ?_, fun h => ?_, fun h caps z off rest hcaps => ?_⟩
  · rcases n with _ | _ | _ | _ | _ | _ | _ | _ | n <;> cases h
    all_goals exact bitBranchForm (fun _ _ => rfl) (fun _ _ => rfl) (fun _ _ => rfl) fun _ _ => rfl
  · rcases n with _ | _ | _ | _ | _ | _ | _ | _ | n <;> cases h
    all_goals exact bitBranchForm (fun _ _ => rfl) (fun _ _ => rfl) (fun _ _ => rfl) fun _ _ => rfl
  · have hgroup : (mk z off).group = .bitops := by fin_cases h <;> rfl
    have habsent : caps.has (mk z off).group = false := by rw [hgroup, Caps.has, hcaps]
    exact ⟨opcodeOf (mk z off), hgroup ▸ decode_encode_groupAbsent habsent rest⟩

/-! ## Completion -/

/-- A run that ends at a boundary with `run` and `svc` kept is a completion: the records are those of the trace whatever
the program (`exec_emits_trace`). -/
theorem completes_of_run {i : Instr} {s : State} {r : Regs} {pc : Word} {mem : Memory} {n : Nat} {l : List Access}
    (h : ∃ t, runInstr i (program i) s = .next t ∧ Leaves s t r pc mem s.run s.svc s.host n ∧ Emits s t l) :
    Completes i s r pc mem n := by
  obtain ⟨t, hrun, hl, -⟩ := h
  have hexec : exec i s = .next t := (exec_eq_runInstr i s).trans hrun
  obtain ⟨t', hexec', he⟩ := exec_emits_trace i s
  cases hexec.symm.trans hexec'
  exact ⟨t, hexec, hl, he⟩

/-- Settles O35: each JMP is the run of its own template, whose pointer is a 16-bit address. -/
theorem jumpsReachTheirTargets : Obligations.JumpsReachTheirTargets := by
  unfold Obligations.JumpsReachTheirTargets
  intro lo hi s
  exact ⟨rfl, rfl, rfl, completes_of_run (runInstr_jmpAbs s (.jmpAbs lo hi)),
    completes_of_run (runInstr_jmpInd s (.jmpInd lo hi)), completes_of_run (runInstr_jmpIax s (.jmpIax lo hi))⟩

/-! ## Two pushed bytes -/

section
variable (c : MemCfg) (m : Memory) (sp v w : Byte)

/-- A byte that is neither of two pushed ones reads as before. -/
theorem readByte_pushed_other {a : Word} (h1 : mirrorAddr c a ≠ mirrorAddr c (stackAddr sp))
    (h2 : mirrorAddr c a ≠ mirrorAddr c (stackAddr (sp - 1#8))) :
    readByte c (pushBytes c m sp [v, w]) a = readByte c m a :=
  readByte_pushBytes c m sp [v, w] a fun k hk => by
    match k, hk with
    | 0, _ => simpa using h1
    | 1, _ => exact h2

/-- The byte pushed last reads as pushed. -/
theorem readByte_pushed_second (h : regionKind c (stackAddr (sp - 1#8)) = some .ram) :
    readByte c (pushBytes c m sp [v, w]) (stackAddr (sp - 1#8)) = w := by
  rw [pushBytes, pushBytes, pushBytes, readByte_storeByte, if_pos ⟨h, rfl⟩]

/-- The byte pushed first reads as pushed, where the second push stores to another byte. -/
theorem readByte_pushed_first (h : regionKind c (stackAddr sp) = some .ram)
    (hne : mirrorAddr c (stackAddr sp) ≠ mirrorAddr c (stackAddr (sp - 1#8))) :
    readByte c (pushBytes c m sp [v, w]) (stackAddr sp) = v := by
  rw [pushBytes, pushBytes, pushBytes, readByte_storeByte, if_neg fun hh => hne hh.2, readByte_storeByte,
    if_pos ⟨h, rfl⟩]

end

/-! ## Subroutines -/

/-- The memory that JSR leaves: the address of its third byte pushed, high byte first (R295). -/
def State.memAfterJsr (s : State) : Memory :=
  pushBytes s.cfg.memcfg s.mem s.r.sp [hiByte (s.after 2), loByte (s.after 2)]

/-- JSR completes; the high byte of the target is read from the memory its pushes leave (R295). -/
theorem completes_jsr (lo hi : Byte) (s : State) :
    Completes (.jsr lo hi) s { s.r with sp := s.r.sp - 2#8 }
      (wordOf (readByte s.cfg.memcfg s.memAfterJsr (s.after 2)) lo) s.memAfterJsr 6 :=
  completes_of_run (runInstr_jsr s (.jsr lo hi))

/-- RTS completes with the two pulled bytes plus one (R296). -/
theorem completes_rts (s : State) :
    Completes .rts s { s.r with sp := s.r.sp + 2#8 }
      (wordOf (s.memRead (stackAddr (s.r.sp + 2#8))) (s.memRead (stackAddr (s.r.sp + 1#8))) + 1#16) s.mem 6 :=
  completes_of_run (runInstr_rts s .rts)

/-- Settles O36: the run of T_JSR; a third byte that the pushes do not reach reads as before. -/
theorem jsrPushesTheReturnAddress : Obligations.JsrPushesTheReturnAddress := by
  unfold Obligations.JsrPushesTheReturnAddress
  intro lo hi s ret a1 a2 m mem
  have hframe : ∀ a, m a ≠ m a1 → m a ≠ m a2 → readByte s.cfg.memcfg mem a = s.memRead a :=
    fun a => readByte_pushed_other s.cfg.memcfg s.mem s.r.sp _ _
  have hjsr : Completes (.jsr lo hi) s { s.r with sp := s.r.sp - 2#8 } (readByte s.cfg.memcfg mem ret ++ lo) mem 6 :=
    completes_jsr lo hi s
  refine ⟨rfl, hjsr, fun h1 h2 hhi => ?_, hframe⟩
  rwa [hframe ret h1 h2, hhi] at hjsr

/-- Settles O37: the run of T_RTS. -/
theorem rtsPullsTheReturnAddress : Obligations.RtsPullsTheReturnAddress := by
  unfold Obligations.RtsPullsTheReturnAddress
  exact fun s => ⟨rfl, completes_rts s⟩

/-- A word is the word of its two bytes. -/
theorem wordOf_hiByte_loByte (w : Word) : wordOf (hiByte w) (loByte w) = w := by
  have hlo : (loByte w).toNat = w.toNat % 256 := by rw [loByte, BitVec.extractLsb'_toNat, Nat.shiftRight_zero]
  rw [← BitVec.toNat_inj, toNat_wordOf, toNat_hiByte, hlo, Nat.div_add_mod']

/-- Settles O38: RTS pulls from the two bytes that JSR pushed to, and adds one to the address of JSR's third byte. -/
theorem jsrThenRtsReturns : Obligations.JsrThenRtsReturns := by
  unfold Obligations.JsrThenRtsReturns
  intro lo hi s a1 a2 hram1 hram2 hne
  obtain ⟨t, hjsr, hlt, -⟩ := completes_jsr lo hi s
  obtain ⟨u, hrts, hlu, -⟩ := completes_rts t
  have hread (a : Word) : t.memRead a = readByte s.cfg.memcfg s.memAfterJsr a := by rw [State.memRead, hlt.cfg, hlt.mem]
  have hsp1 : t.r.sp + 1#8 = s.r.sp - 1#8 := by rw [hlt.regs]; bv_omega
  have hsp2 : t.r.sp + 2#8 = s.r.sp := by rw [hlt.regs]; bv_omega
  have hlo : t.memRead (stackAddr (s.r.sp - 1#8)) = loByte (s.after 2) :=
    (hread _).trans (readByte_pushed_second _ _ _ _ _ hram2)
  have hhi : t.memRead (stackAddr s.r.sp) = hiByte (s.after 2) :=
    (hread _).trans (readByte_pushed_first _ _ _ _ _ hram1 hne)
  refine ⟨t, u, hjsr, hrts, ?_, ?_, ?_⟩
  · rw [hlu.regs, hsp2, hlt.regs]
  · rw [hlu.pc, hsp1, hsp2, hlo, hhi, wordOf_hiByte_loByte]
    exact word_add_2_1 s.pc
  · rw [hlu.cyc, hlt.cyc]

end Sys2Proof.Machine
end

section
/-! PROOF of O39, O40, O41 and O43, flags, traps, wait and stop (46_flags_system.md R311 to R322). The flag instructions
and NOP are T_IMP (`impForm`); BRK, RTI, WAI and STP are the runs of their own programs. RTI, WAI and STP write `svc` or
`run`, so `Completes` does not say it of them; their `exec` and `trace` are by definition those of the run
(`runInstr_rti`, `runInstr_halt`). -/

namespace Sys2Proof.Machine

/-! ## Flags -/

/-- Settles O39: the program of each flag instruction is T_IMP with `opFlag` of its flag, that of NOP with `opNop`. -/
theorem flagInstructionsWriteOneFlag : Obligations.FlagInstructionsWriteOneFlag := by
  unfold Obligations.FlagInstructionsWriteOneFlag
  exact ⟨impForm rfl rfl, impForm rfl rfl, impForm rfl rfl, impForm rfl rfl, impForm rfl rfl, impForm rfl rfl,
    impForm rfl rfl, impForm rfl rfl⟩

/-! ## Traps -/

/-- A byte that is none of three pushed ones reads as before. -/
theorem readByte_three_pushed_other (c : MemCfg) (m : Memory) (sp v w x : Byte) {a : Word}
    (h1 : mirrorAddr c a ≠ mirrorAddr c (stackAddr sp)) (h2 : mirrorAddr c a ≠ mirrorAddr c (stackAddr (sp - 1#8)))
    (h3 : mirrorAddr c a ≠ mirrorAddr c (stackAddr (sp - 2#8))) :
    readByte c (pushBytes c m sp [v, w, x]) a = readByte c m a :=
  readByte_pushBytes c m sp [v, w, x] a fun k hk => by
    match k, hk with
    | 0, _ => simpa using h1
    | 1, _ => exact h2
    | 2, _ => exact h3

/-- The memory that BRK leaves: PC0 + 2 pushed, high byte first, then P with B = 1 (R318). -/
def State.memAfterBrk (s : State) : Memory :=
  pushBytes s.cfg.memcfg s.mem s.r.sp [hiByte (s.after 2), loByte (s.after 2), packP s.r.p true]

/-- BRK completes; the vector is read from the memory its pushes leave (R318). -/
theorem completes_brk (s : State) :
    Completes .brk s { s.r with sp := s.r.sp - 3#8, p := trapFlags s.r.p }
      (wordOf (readByte s.cfg.memcfg s.memAfterBrk 0xFFFF#16) (readByte s.cfg.memcfg s.memAfterBrk 0xFFFE#16))
      s.memAfterBrk 7 :=
  completes_of_run (runInstr_brk s .brk)

/-- Settles O40: the run of T_BRK, whose third push goes to `$01:(S - 1 - 1)`, which is `$01:(S - 2)`. -/
theorem brkTakesTheTrap : Obligations.BrkTakesTheTrap := by
  unfold Obligations.BrkTakesTheTrap
  intro s c ret a1 a2 a3 mem
  have hmem : mem = s.memAfterBrk := by
    rw [State.memAfterBrk, pushBytes, pushBytes, pushBytes, pushBytes, BitVec.sub_sub]
    rfl
  rw [hmem]
  exact ⟨rfl, completes_brk s, fun a => readByte_three_pushed_other c s.mem s.r.sp _ _ _⟩

/-- Settles O41: the run of T_RTI, whose `unpackP` takes the six flags from the pulled byte. -/
theorem rtiPullsFlagsAndPc : Obligations.RtiPullsFlagsAndPc := by
  unfold Obligations.RtiPullsFlagsAndPc
  exact fun s => ⟨rfl, runInstr_rti s .rti⟩

/-! ## Wait and stop -/

/-- Settles O43: the runs of T_HALT with the mode to enter, and both opcodes are of the group WAISTP. -/
theorem waiStpChangeRunAlone : Obligations.WaiStpChangeRunAlone := by
  unfold Obligations.WaiStpChangeRunAlone
  refine ⟨rfl, rfl, fun s => ⟨runInstr_halt s .wai .waiting, runInstr_halt s .stp .stopped⟩, fun caps rest hcaps => ?_⟩
  have habsent : caps.has .waistp = false := hcaps
  exact ⟨decode_encode_groupAbsent (i := .wai) habsent rest, decode_encode_groupAbsent (i := .stp) habsent rest⟩

end Sys2Proof.Machine
end

section
/-! PROOF of O60, that what is dead has no influence (60_exceptions.md R358; 10_state.md R32, R36;
40_addressing_and_bus_cycles.md R114). What is dead at a boundary is given one fixed value (`State.live`), and a step
from there leaves the same result (`step_live`): what the run of every program leaves is said by the lemma of its cycle
template in terms of the live fields alone (`runInstr_live`). Two states that agree have the same live state
(`Agree.live_eq`), so each steps as that one does. -/

namespace Sys2Proof.Machine

/-! ## The live part of a state -/

/-- The state with a fixed value in every field that must not matter at a boundary: `svc`, the latches, `cyc`, the
records and events, `seq`, and the addresses of the dummy cycles. -/
def State.live (s : State) : State :=
  { s with
    svc := .running, seq := .instr, lat := Latches.reset, cyc := 0, bus := [], events := []
    cfg := { s.cfg with dummies := {} } }

theorem Agree.live_eq {s s' : State} (h : Agree s s') : s.live = s'.live := by
  obtain ⟨hr, hpc, hmem, hhost, hrun, hcaps, hmemcfg, ht, ht'⟩ := h
  simp only [State.host, HostView.mk.injEq] at hhost
  obtain ⟨hnmi, hirq, hinputs⟩ := hhost
  simp only [State.live, hr, hpc, hmem, hnmi, hirq, hinputs, hrun, hcaps, hmemcfg, ht, ht']

theorem State.live_latchInputs (s : State) : s.live.latchInputs = s.latchInputs.live := by
  simp only [State.latchInputs_eq]; rfl

/-! ## The same result -/

/-- Two states with the same registers, PC, memory, inputs and `run`. -/
structure SameResult (t t' : State) : Prop where
  regs : t.r = t'.r
  pc : t.pc = t'.pc
  mem : t.mem = t'.mem
  host : t.host = t'.host
  run : t.run = t'.run

/-- Two answers of a step that are next states with the same result, or the same fault. -/
inductive SameOutcome : Host.Outcome State Fault Refusal → Host.Outcome State Fault Refusal → Prop
  | next {t t' : State} (h : SameResult t t') : SameOutcome (.next t) (.next t')
  | fault (f : Fault) : SameOutcome (.fault f) (.fault f)

theorem SameResult.symm {t t' : State} (h : SameResult t t') : SameResult t' t :=
  ⟨h.regs.symm, h.pc.symm, h.mem.symm, h.host.symm, h.run.symm⟩

theorem SameResult.trans {t t' t'' : State} (h : SameResult t t') (h' : SameResult t' t'') : SameResult t t'' :=
  ⟨h.regs.trans h'.regs, h.pc.trans h'.pc, h.mem.trans h'.mem, h.host.trans h'.host, h.run.trans h'.run⟩

theorem SameOutcome.symm {o o' : Host.Outcome State Fault Refusal} (h : SameOutcome o o') : SameOutcome o' o := by
  cases h with
  | next h => exact .next h.symm
  | fault f => exact .fault f

theorem SameOutcome.trans {o o' o'' : Host.Outcome State Fault Refusal} (h : SameOutcome o o')
    (h' : SameOutcome o' o'') : SameOutcome o o'' := by
  cases h with
  | next h => cases h' with | next h' => exact .next (h.trans h')
  | fault f => exact h'

/-- Runs that leave the same registers, PC, memory, `run` and inputs, whatever they leave in `svc` and record. -/
theorem Leaves.sameResult {s s' t t' : State} {r : Regs} {pc : Word} {mem : Memory} {run : RunMode} {svc svc' : Svc}
    {h : HostView} {n : Nat} (hl : Leaves s t r pc mem run svc h n) (hl' : Leaves s' t' r pc mem run svc' h n) :
    SameResult t t' :=
  ⟨hl.regs.trans hl'.regs.symm, hl.pc.trans hl'.pc.symm, hl.mem.trans hl'.mem.symm, hl.host.trans hl'.host.symm,
    hl.run.trans hl'.run.symm⟩

theorem sameOutcome_of_runs {o o' : Host.Outcome State Fault Refusal} {s s' : State} {r : Regs} {pc : Word}
    {mem : Memory} {run : RunMode} {svc svc' : Svc} {h : HostView} {n : Nat} {E E' : State → Prop}
    (ho : ∃ t, o = .next t ∧ Leaves s t r pc mem run svc h n ∧ E t)
    (ho' : ∃ t, o' = .next t ∧ Leaves s' t r pc mem run svc' h n ∧ E' t) : SameOutcome o o' := by
  obtain ⟨t, rfl, hl, -⟩ := ho
  obtain ⟨t', rfl, hl', -⟩ := ho'
  exact .next (hl.sameResult hl')

/-! ## The runs of the programs -/

/-- The addressing cycles are as many, since the page-cross test reads live fields alone. -/
theorem State.traceAddress_live_length (s : State) (i : Instr) (m : DataMode) (always : Bool) :
    (s.live.traceAddress i m always).length = (s.traceAddress i m always).length :=
  Nat.succ.inj ((lastAddressCycle_eq s.live i m always).symm.trans (lastAddressCycle_eq s i m always))

theorem runInstr_imm_live (s : State) (i : Instr) (decimal : Bool) (op : Byte → Regs → Regs) :
    SameOutcome (runInstr i (.imm decimal op) s) (runInstr i (.imm decimal op) s.live) := by
  cases hd : decimal && s.r.p.d with
  | false => exact sameOutcome_of_runs (runInstr_imm s i decimal op hd) (runInstr_imm s.live i decimal op hd)
  | true =>
    obtain ⟨rfl, hp⟩ := Bool.and_eq_true_iff.mp hd
    exact sameOutcome_of_runs (runInstr_imm_decimal s i op hp) (runInstr_imm_decimal s.live i op hp)

theorem runInstr_branch_live (s : State) (i : Instr) (cond : Flags → Bool) :
    SameOutcome (runInstr i (.branch cond) s) (runInstr i (.branch cond) s.live) := by
  cases hc : cond s.r.p with
  | false =>
    exact sameOutcome_of_runs (runInstr_branch_not_taken s i cond hc) (runInstr_branch_not_taken s.live i cond hc)
  | true =>
    by_cases hp : hiByte (s.pc + 2#16 + i.op1.signExtend 16) = hiByte (s.pc + 2#16)
    · exact sameOutcome_of_runs (runInstr_branch_taken s i cond hc hp) (runInstr_branch_taken s.live i cond hc hp)
    · exact sameOutcome_of_runs (runInstr_branch_crossed s i cond hc hp) (runInstr_branch_crossed s.live i cond hc hp)

theorem runInstr_bitBranch_live (s : State) (i : Instr) (n : Nat) (sense : Bool) :
    SameOutcome (runInstr i (.bitBranch n sense) s) (runInstr i (.bitBranch n sense) s.live) := by
  by_cases hc : (readByte s.cfg.memcfg s.mem (wordOf 0x00#8 i.op1)).getLsbD n = sense
  · by_cases hp : hiByte (s.pc + 3#16 + i.op2.signExtend 16) = hiByte (s.pc + 3#16)
    · exact sameOutcome_of_runs (runInstr_bitBranch_taken s i n sense hc hp)
        (runInstr_bitBranch_taken s.live i n sense hc hp)
    · exact sameOutcome_of_runs (runInstr_bitBranch_crossed s i n sense hc hp)
        (runInstr_bitBranch_crossed s.live i n sense hc hp)
  · exact sameOutcome_of_runs (runInstr_bitBranch_not_taken s i n sense hc)
      (runInstr_bitBranch_not_taken s.live i n sense hc)

/-- The templates with a data mode: as many addressing cycles, and the same effective address. -/
theorem runInstr_read_live (s : State) (i : Instr) (m : DataMode) (decimal : Bool) (op : Byte → Regs → Regs) :
    SameOutcome (runInstr i (.read m decimal op) s) (runInstr i (.read m decimal op) s.live) := by
  have hlive := runInstr_read s.live i m decimal op
  rw [s.traceAddress_live_length] at hlive
  exact sameOutcome_of_runs (runInstr_read s i m decimal op) hlive

theorem runInstr_write_live (s : State) (i : Instr) (m : DataMode) (v : Regs → Byte) :
    SameOutcome (runInstr i (.write m v) s) (runInstr i (.write m v) s.live) := by
  have hlive := runInstr_write s.live i m v
  rw [s.traceAddress_live_length] at hlive
  exact sameOutcome_of_runs (runInstr_write s i m v) hlive

theorem runInstr_modify_live (s : State) (i : Instr) (m : DataMode) (always : Bool) (res : Byte → Regs → Byte)
    (fl : Byte → Regs → Flags) :
    SameOutcome (runInstr i (.modify m always res fl) s) (runInstr i (.modify m always res fl) s.live) := by
  have hlive := runInstr_modify s.live i m always res fl
  rw [s.traceAddress_live_length] at hlive
  exact sameOutcome_of_runs (runInstr_modify s i m always res fl) hlive

/-- Every program an instruction can have. -/
theorem runInstr_live (s : State) (i : Instr) {p : MicroProgram} (hp : ∀ k, p ≠ .interrupt k) :
    SameOutcome (runInstr i p s) (runInstr i p s.live) := by
  cases p with
  | imp op => exact sameOutcome_of_runs (runInstr_imp s i op) (runInstr_imp s.live i op)
  | imm decimal op => exact runInstr_imm_live s i decimal op
  | read m decimal op => exact runInstr_read_live s i m decimal op
  | write m v => exact runInstr_write_live s i m v
  | modify m always res fl => exact runInstr_modify_live s i m always res fl
  | branch cond => exact runInstr_branch_live s i cond
  | bitBranch n sense => exact runInstr_bitBranch_live s i n sense
  | jmpAbs => exact sameOutcome_of_runs (runInstr_jmpAbs s i) (runInstr_jmpAbs s.live i)
  | jmpInd => exact sameOutcome_of_runs (runInstr_jmpInd s i) (runInstr_jmpInd s.live i)
  | jmpIax => exact sameOutcome_of_runs (runInstr_jmpIax s i) (runInstr_jmpIax s.live i)
  | jsr => exact sameOutcome_of_runs (runInstr_jsr s i) (runInstr_jsr s.live i)
  | rts => exact sameOutcome_of_runs (runInstr_rts s i) (runInstr_rts s.live i)
  | rti => exact sameOutcome_of_runs (runInstr_rti s i) (runInstr_rti s.live i)
  | brk => exact sameOutcome_of_runs (runInstr_brk s i) (runInstr_brk s.live i)
  | push v => exact sameOutcome_of_runs (runInstr_push s i v) (runInstr_push s.live i v)
  | pull op => exact sameOutcome_of_runs (runInstr_pull s i op) (runInstr_pull s.live i op)
  | halt mode => exact sameOutcome_of_runs (runInstr_halt s i mode) (runInstr_halt s.live i mode)
  | interrupt k => exact absurd rfl (hp k)

theorem exec_live (i : Instr) (s : State) : SameOutcome (exec i s) (exec i s.live) := by
  simp only [exec_eq_runInstr]
  exact runInstr_live s i (program_ne_interrupt i)

theorem runInterrupt_live (s : State) (k : IntKind) : SameResult (runInterrupt k s) (runInterrupt k s.live) := by
  obtain ⟨hl, -⟩ := runInterrupt_spec s k
  obtain ⟨hl', -⟩ := runInterrupt_spec s.live k
  exact hl.sameResult hl'

/-! ## The step -/

theorem sameResult_idleCycle_live (s : State) : SameResult s.idleCycle s.live.idleCycle := by
  constructor <;> simp <;> rfl

theorem sameResult_decodeErrorCycle_live (s : State) (op : Byte) :
    SameResult (s.decodeErrorCycle op) (s.live.decodeErrorCycle op) := by
  constructor <;> simp <;> rfl

/-- The bytes decoded, and the groups they are decoded under, are live. -/
theorem fetchExecute_live (s : State) : SameOutcome (fetchExecute s) (fetchExecute s.live) := by
  have hbytes : decode s.live.cfg.caps (streamBytes s.live) = decode s.cfg.caps (streamBytes s) := rfl
  unfold fetchExecute
  rw [hbytes]
  cases decode s.cfg.caps (streamBytes s) with
  | ok i rest => exact exec_live i s
  | rejected why => exact .next (sameResult_decodeErrorCycle_live s _)

/-- Recognition reads the interrupt bits and I, which are live. -/
theorem boundaryStep_live (s : State) : SameOutcome (boundaryStep s) (boundaryStep s.live) := by
  have hrec : recognise s.live = recognise s := rfl
  cases hk : recognise s with
  | some k =>
    rw [boundaryStep_interrupt hk, boundaryStep_interrupt (hrec.trans hk)]
    exact .next (runInterrupt_live s k)
  | none =>
    rw [boundaryStep_fetch hk, boundaryStep_fetch (hrec.trans hk)]
    exact fetchExecute_live s

/-- A step from a boundary, by the mode of the engine (60_exceptions.md R348). -/
theorem step_live {s : State} (ht : s.t = 1) : SameOutcome (step s) (step s.live) := by
  have hrun : s.live.run = s.run := rfl
  have hidle : SameOutcome (.next s.latchInputs.idleCycle) (.next s.live.latchInputs.idleCycle) := by
    rw [s.live_latchInputs]
    exact .next (sameResult_idleCycle_live _)
  cases hr : s.run with
  | faulted op a =>
    rw [step_faulted hr, step_faulted (hrun.trans hr)]
    exact .fault _
  | stopped =>
    rw [step_stopped hr, step_stopped (hrun.trans hr)]
    exact hidle
  | waiting =>
    have hwoken : woken s.live.latchInputs = woken s.latchInputs := by rw [s.live_latchInputs]; rfl
    cases hw : woken s.latchInputs with
    | false =>
      rw [step_waiting_idle hr hw, step_waiting_idle (hrun.trans hr) (hwoken.trans hw)]
      exact hidle
    | true =>
      rw [step_waiting_woken hr hw, step_waiting_woken (hrun.trans hr) (hwoken.trans hw), s.live_latchInputs]
      exact boundaryStep_live (s.latchInputs.withRun .running)
  | running =>
    rw [step_boundary hr ht, step_boundary (hrun.trans hr) ht, s.live_latchInputs]
    exact boundaryStep_live s.latchInputs

/-- States that agree step alike, each as their common live state does. -/
theorem Agree.step_sameOutcome {s s' : State} (h : Agree s s') : SameOutcome (step s) (step s') := by
  obtain ⟨ht, ht'⟩ := h.boundary
  have hlive := step_live ht
  rw [h.live_eq] at hlive
  exact hlive.trans (step_live ht').symm

/-- Settles O60 by `Agree.step_sameOutcome`. -/
theorem deadStateHasNoInfluence : Obligations.DeadStateHasNoInfluence := by
  unfold Obligations.DeadStateHasNoInfluence
  intro s s' hagree
  have hsame := hagree.step_sameOutcome
  refine ⟨fun t h => ?_, fun f h => ?_⟩ <;> rw [h] at hsame
  · generalize step s' = o at hsame
    obtain ⟨hr, hpc, hmem, hhost, hrun⟩ | _ := hsame
    exact ⟨_, rfl, hr, hpc, hmem, hhost, hrun⟩
  · generalize step s' = o at hsame
    cases hsame
    rfl

end Sys2Proof.Machine
end

section
/-! PROOF of O42, that RTI returns from BRK and from an interrupt sequence (60_exceptions.md R350, R352;
45_branch_jump.md R297). A trap entry leaves three bytes on the stack and moves S, D and I (`TrapEntered`); what RTI
pulls are those three bytes, where they are distinct RAM bytes (`DistinctRamStack`), and P packed with either B gives
the same flags back. -/

namespace Sys2Proof.Machine

/-! ## Three pushed bytes -/

/-- The three bytes that a trap pushes from `$01:sp` down are RAM bytes, no two the same. -/
structure DistinctRamStack (c : MemCfg) (sp : Byte) : Prop where
  ram1 : regionKind c (stackAddr sp) = some .ram
  ram2 : regionKind c (stackAddr (sp - 1#8)) = some .ram
  ram3 : regionKind c (stackAddr (sp - 2#8)) = some .ram
  ne12 : mirrorAddr c (stackAddr sp) ≠ mirrorAddr c (stackAddr (sp - 1#8))
  ne13 : mirrorAddr c (stackAddr sp) ≠ mirrorAddr c (stackAddr (sp - 2#8))
  ne23 : mirrorAddr c (stackAddr (sp - 1#8)) ≠ mirrorAddr c (stackAddr (sp - 2#8))

section
variable {c : MemCfg} {sp : Byte} (h : DistinctRamStack c sp) (m : Memory) (v w x : Byte)
include h

/-- Three pushed bytes read as pushed: the last, the one before it, and the first. -/
theorem DistinctRamStack.readByte_third : readByte c (pushBytes c m sp [v, w, x]) (stackAddr (sp - 2#8)) = x := by
  simp [pushBytes, readByte_storeByte, h.ram3]

theorem DistinctRamStack.readByte_second : readByte c (pushBytes c m sp [v, w, x]) (stackAddr (sp - 1#8)) = w := by
  simp [pushBytes, readByte_storeByte, h.ram2, h.ne23]

theorem DistinctRamStack.readByte_first : readByte c (pushBytes c m sp [v, w, x]) (stackAddr sp) = v := by
  simp [pushBytes, readByte_storeByte, h.ram1, h.ne12, h.ne13]

end

/-! ## The return -/

/-- `t` is what a trap taken in `s` leaves, as far as RTI reads it: `ret` and P with some B are pushed, S is down by
three, and of P only I and D are changed (60_exceptions.md R350). -/
structure TrapEntered (s t : State) (ret : Word) (b : Bool) : Prop where
  regs : t.r = { s.r with sp := s.r.sp - 3#8, p := trapFlags s.r.p }
  mem : t.mem = pushBytes s.cfg.memcfg s.mem s.r.sp [hiByte ret, loByte ret, packP s.r.p b]
  cfg : t.cfg = s.cfg

/-- RTI pulls P, PC low and PC high, with no increment (46_flags_system.md R319). -/
theorem exec_rti (s : State) : ∃ t, exec .rti s = .next t ∧
    Leaves s t { s.r with sp := s.r.sp + 3#8, p := unpackP (s.memRead (stackAddr (s.r.sp + 1#8))) }
      (wordOf (s.memRead (stackAddr (s.r.sp + 3#8))) (s.memRead (stackAddr (s.r.sp + 2#8)))) s.mem s.run .running
      s.host 6 ∧ Emits s t (s.trace .rti) :=
  runInstr_rti s .rti

/-- RTI undoes a trap entry (R352). -/
theorem TrapEntered.rti_returns {s t : State} {ret : Word} {b : Bool} (h : TrapEntered s t ret b)
    (hs : DistinctRamStack s.cfg.memcfg s.r.sp) :
    ∃ u, exec .rti t = .next u ∧ u.r = s.r ∧ u.pc = ret ∧ u.svc = .running := by
  obtain ⟨u, hrti, hlu, -⟩ := exec_rti t
  have hread (a : Word) : t.memRead a = readByte s.cfg.memcfg
      (pushBytes s.cfg.memcfg s.mem s.r.sp [hiByte ret, loByte ret, packP s.r.p b]) a := by
    rw [State.memRead, h.cfg, h.mem]
  have hsp1 : t.r.sp + 1#8 = s.r.sp - 2#8 := by rw [h.regs]; bv_omega
  have hsp2 : t.r.sp + 2#8 = s.r.sp - 1#8 := by rw [h.regs]; bv_omega
  have hsp3 : t.r.sp + 3#8 = s.r.sp := by rw [h.regs]; bv_omega
  have hp : t.memRead (stackAddr (s.r.sp - 2#8)) = packP s.r.p b := (hread _).trans (hs.readByte_third _ _ _ _)
  have hlo : t.memRead (stackAddr (s.r.sp - 1#8)) = loByte ret := (hread _).trans (hs.readByte_second _ _ _ _)
  have hhi : t.memRead (stackAddr s.r.sp) = hiByte ret := (hread _).trans (hs.readByte_first _ _ _ _)
  refine ⟨u, hrti, ?_, ?_, hlu.svc⟩
  · rw [hlu.regs, hsp1, hsp3, hp, unpackP_packP, h.regs]
  · rw [hlu.pc, hsp2, hsp3, hlo, hhi, wordOf_hiByte_loByte]

theorem trapEntered_brk (s : State) : ∃ t, exec .brk s = .next t ∧ TrapEntered s t (s.after 2) true := by
  obtain ⟨t, h, hl, -⟩ := completes_brk s
  exact ⟨t, h, hl.regs, hl.mem, hl.cfg⟩

theorem trapEntered_runInterrupt (s : State) (k : IntKind) : TrapEntered s (runInterrupt k s) s.pc false := by
  obtain ⟨hl, -⟩ := runInterrupt_spec s k
  exact ⟨hl.regs, hl.mem, hl.cfg⟩

/-- Settles O42: BRK enters the trap with PC0 + 2, an interrupt sequence with PC, and RTI undoes both. -/
theorem rtiReturnsFromTraps : Obligations.RtiReturnsFromTraps := by
  unfold Obligations.RtiReturnsFromTraps
  intro s c a1 a2 a3 ram1 ram2 ram3 ne12 ne13 ne23
  have hs : DistinctRamStack s.cfg.memcfg s.r.sp := ⟨ram1, ram2, ram3, ne12, ne13, ne23⟩
  refine ⟨?_, fun k => (trapEntered_runInterrupt s k).rti_returns hs⟩
  obtain ⟨t, hbrk, ht⟩ := trapEntered_brk s
  obtain ⟨u, hu⟩ := ht.rti_returns hs
  exact ⟨t, u, hbrk, hu⟩

end Sys2Proof.Machine
end

section
/-! PROOF of O47 to O51 and O55: interrupts, `Waiting`, `Stopped` and DecodeError (60_exceptions.md R341 to R361), and
the invariant after reset (70_reset_and_hazards.md R380). An interrupt that is recognised is one run of T_INT, whichever
mode it is found in (`step_recognised`); an idle cycle is said once, for `Waiting` and for `Stopped` (`Idles`). -/

namespace Sys2Proof.Machine

/-! ## Interrupts -/

/-- Waking in terms of the host's view (60_exceptions.md R360). -/
theorem woken_eq (s : State) : woken s = (s.host.nmiPending || s.host.irqLine) := rfl

/-- Recognition wakes, since it reads the same two bits (60_exceptions.md R360). -/
theorem woken_of_recognise {s : State} {k : IntKind} (h : recognise s = some k) : woken s = true := by
  rw [recognise_eq] at h
  rw [woken_eq]
  split_ifs at h with hn hi
  · rw [hn, Bool.true_or]
  · rw [(Bool.and_eq_true_iff.mp hi).1, Bool.or_true]

/-- At a boundary and in `Waiting` a recognised interrupt is taken, with `run` as `Running` (60_exceptions.md R348). -/
theorem step_recognised {s : State} {k : IntKind} (hs : s.atBoundary ∨ s.run = .waiting)
    (hk : recognise s.latchInputs = some k) : step s = .next (runInterrupt k (s.latchInputs.withRun .running)) := by
  rcases hs with ⟨hr, ht⟩ | hr
  · have hrun : s.latchInputs.withRun .running = s.latchInputs := by rw [← hr, ← s.latchInputs_run]; rfl
    rw [step_boundary hr ht, boundaryStep_interrupt hk, hrun]
  · rw [step_waiting_woken hr (woken_of_recognise hk)]
    exact boundaryStep_interrupt hk

theorem recognise_latchInputs_nmi {s : State} (h : s.nmiDue = true) : recognise s.latchInputs = some .nmi := by
  rw [State.nmiDue] at h
  simp [recognise_eq, h]

theorem recognise_latchInputs_irq {s : State} (hn : s.nmiDue = false) (hi : s.irqDue = true) :
    recognise s.latchInputs = some .irq := by
  rw [State.nmiDue] at hn
  rw [State.irqDue] at hi
  simp [recognise_eq, hn, hi]

/-- What a run leaves and emits is counted from `cyc`, the records and the configuration of its start alone. -/
theorem Leaves.of_start {s u t : State} {r : Regs} {pc : Word} {mem : Memory} {run : RunMode} {svc : Svc}
    {h : HostView} {n : Nat} (hl : Leaves u t r pc mem run svc h n) (hcfg : u.cfg = s.cfg) (hcyc : u.cyc = s.cyc) :
    Leaves s t r pc mem run svc h n :=
  { hl with cfg := hl.cfg.trans hcfg, cyc := hcyc ▸ hl.cyc }

theorem Emits.of_start {s u t : State} {l : List Access} (he : Emits u t l) (hcyc : u.cyc = s.cyc)
    (hbus : u.bus = s.bus) : Emits s t l := by
  rw [Emits, ← hcyc, ← hbus]; exact he

/-- Settles O48: NMI is recognised first, and what T_INT leaves is `runInterrupt_spec`. -/
theorem nmiIsTaken : Obligations.NmiIsTaken := by
  unfold Obligations.NmiIsTaken
  intro s hs hn
  obtain ⟨hl, he⟩ := runInterrupt_spec (s.latchInputs.withRun .running) .nmi
  refine ⟨_, step_recognised hs (recognise_latchInputs_nmi hn), ?_, he.of_start (by simp) (by simp)⟩
  simpa [trapFlags, wordOf, intVector, intSvc] using hl.of_start (s := s) (by simp) (by simp)

/-- Settles O49: with no NMI the IRQ is recognised, and what T_INT leaves is `runInterrupt_spec`. -/
theorem irqIsTaken : Obligations.IrqIsTaken := by
  unfold Obligations.IrqIsTaken
  intro s hs hn hi
  obtain ⟨hl, he⟩ := runInterrupt_spec (s.latchInputs.withRun .running) .irq
  refine ⟨_, step_recognised hs (recognise_latchInputs_irq hn hi), ?_, he.of_start (by simp) (by simp)⟩
  simpa [trapFlags, wordOf, intVector, intSvc] using hl.of_start (s := s) (by simp) (by simp)

/-! ## Idle cycles -/

/-- `t` is `s` after `n` idle cycles (60_exceptions.md R360, R361). -/
structure Idles (n : Nat) (s t : State) : Prop where
  run : t.run = s.run
  regs : t.r = s.r
  pc : t.pc = s.pc
  mem : t.mem = s.mem
  svc : t.svc = s.svc
  number : t.t = s.t
  seq : t.seq = s.seq
  lat : t.lat = s.lat
  cfg : t.cfg = s.cfg
  host : t.host = s.host.latches n
  cyc : t.cyc = s.cyc + n
  emits : Emits s t ((List.range n).map fun k => s.rdDummy (s.idling k) .da21 s.pc)

theorem idles_zero (s : State) : Idles 0 s s := ⟨rfl, rfl, rfl, rfl, rfl, rfl, rfl, rfl, rfl, rfl, rfl, rfl⟩

theorem idles_idleCycle (s : State) : Idles 1 s s.latchInputs.idleCycle := by
  constructor
  case emits =>
    simp [Emits, records, State.rdDummy, State.rdMem, rd, State.dummyAddr, State.view_eq, State.idling,
      HostView.latches, State.memRead]
  all_goals simp [HostView.latches]

/-- The idle cycles after the first, as they are counted from it. -/
theorem Idles.rdDummy_idling {s u : State} (h : Idles 1 s u) (k : Nat) :
    u.rdDummy (u.idling k) .da21 u.pc = s.rdDummy (s.idling (k + 1)) .da21 s.pc := by
  have hview : u.idling k = s.idling (k + 1) := by
    simp [State.idling, State.view, HostView.latches, h.run, h.regs, h.pc, h.mem, h.svc, h.number, h.seq, h.lat, h.host,
      h.cyc, Nat.add_assoc, Nat.add_comm 1]
  rw [hview, h.pc, State.rdDummy, State.rdDummy, State.rdMem, State.rdMem, State.memRead_congr h.mem h.cfg, h.cfg]

/-- The record of one cycle and then those of the cycles after it. -/
theorem Emits.cons {s u t : State} {a : Access} {l : List Access} (hu : Emits s u [a]) (hcyc : u.cyc = s.cyc + 1)
    (ht : Emits u t l) : Emits s t (a :: l) := by
  rw [Emits] at hu
  rw [Emits, hcyc, hu] at ht
  simpa [Emits, records] using ht

/-- An idle cycle and then `n` more. -/
theorem Idles.succ {n : Nat} {s u t : State} (h : Idles 1 s u) (h' : Idles n u t) : Idles (n + 1) s t where
  run := h'.run.trans h.run
  regs := h'.regs.trans h.regs
  pc := h'.pc.trans h.pc
  mem := h'.mem.trans h.mem
  svc := h'.svc.trans h.svc
  number := h'.number.trans h.number
  seq := h'.seq.trans h.seq
  lat := h'.lat.trans h.lat
  cfg := h'.cfg.trans h.cfg
  host := by rw [h'.host, h.host]; rfl
  cyc := by rw [h'.cyc, h.cyc]; omega
  emits := by
    have he := h'.emits
    simp only [h.rdDummy_idling] at he
    rw [List.range_succ_eq_map, List.map_cons, List.map_map]
    exact h.emits.cons h.cyc he

theorem steps_stopped (n : Nat) {s : State} (hr : s.run = .stopped) : ∃ t, steps n s = .next t ∧ Idles n s t := by
  induction n generalizing s with
  | zero => exact ⟨s, rfl, idles_zero s⟩
  | succ n ih =>
    have hidle := idles_idleCycle s
    obtain ⟨t, hsteps, h⟩ := ih (hidle.run.trans hr)
    exact ⟨t, by rw [steps, step_stopped hr]; exact hsteps, hidle.succ h⟩

/-- Settles O51 by `steps_stopped`, field by field. -/
theorem stoppedIdlesForEver : Obligations.StoppedIdlesForEver := by
  unfold Obligations.StoppedIdlesForEver
  intro n s hr
  obtain ⟨t, hsteps, h⟩ := steps_stopped n hr
  exact ⟨t, hsteps, h.run.trans hr, h.regs, h.pc, h.mem, h.svc, h.number, h.seq, h.lat, h.cfg, h.host, h.cyc, h.emits⟩

/-- Settles O50: without an NMI only the IRQ wakes, and with I = 1 it is not recognised. -/
theorem waitingIdlesAndWakes : Obligations.WaitingIdlesAndWakes := by
  unfold Obligations.WaitingIdlesAndWakes
  intro s hr hn
  rw [State.nmiDue] at hn
  have hwoken : woken s.latchInputs = s.host.latch.irqLine := by simp [woken_eq, hn]
  refine ⟨fun hi => ?_, fun i hi hmask hw h => ?_⟩
  · have hidle := idles_idleCycle s
    exact ⟨_, step_waiting_idle hr (hwoken.trans hi), hidle.run.trans hr, hidle.regs, hidle.pc, hidle.mem, hidle.svc,
      hidle.number, hidle.seq, hidle.lat, hidle.cfg, hidle.host, hidle.cyc, hidle.emits⟩
  · have hrec : recognise (s.latchInputs.withRun .running) = none :=
      recognise_latchInputs_eq_none hn (by simp [State.irqDue, hmask])
    rw [step_waiting_woken hr (hwoken.trans hi), boundaryStep_fetch hrec]
    exact fetchExecute_of_holds (holds_latchInputs h) (by simpa using hw)

/-! ## DecodeError -/

theorem lookupOpcode_of_placeholder {caps : Caps} {op : Byte} (h : placeholderOpcode caps op = true) :
    ∃ why, lookupOpcode caps op = .error why := by
  have habsent {g : Group} (hg : opcodeGroup op = g) (hbase : g ≠ .base) (hcaps : caps.has g = false) :
      lookupOpcode caps op = .error (.groupAbsent op g) :=
    lookupOpcode_eq_groupAbsent_iff.mpr ⟨opcodeForm_ne_none_of_group (hg ▸ hbase), hg, hcaps⟩
  simp only [placeholderOpcode, Bool.or_eq_true, Bool.and_eq_true, Bool.not_eq_true', List.contains_iff_mem] at h
  rcases h with (hun | ⟨hop, hcaps⟩) | ⟨hop, hcaps⟩
  · exact ⟨_, lookupOpcode_eq_unassigned_iff.mpr ((opcodeForm_eq_none_iff op).mpr hun)⟩
  · exact ⟨_, habsent ((opcodeGroup_eq_bitops_iff op).mpr hop) nofun hcaps⟩
  · exact ⟨_, habsent ((opcodeGroup_eq_waistp_iff op).mpr hop) nofun hcaps⟩

/-- Settles O47: the slot is an error, so the step is the one fetch cycle that ends in `Faulted`. -/
theorem placeholderOpcodeFaults : Obligations.PlaceholderOpcodeFaults := by
  unfold Obligations.PlaceholderOpcodeFaults
  rintro s ⟨hr, ht⟩ hn hi hop
  have hread : s.latchInputs.memRead s.latchInputs.pc = s.memRead s.pc := by
    rw [State.latchInputs_pc, State.memRead_congr s.latchInputs_mem s.latchInputs_cfg]
  obtain ⟨why, hwhy⟩ := lookupOpcode_of_placeholder hop
  have hstep : step s = .next (s.latchInputs.decodeErrorCycle (s.memRead s.pc)) := by
    rw [step_boundary hr ht, boundaryStep_fetch (recognise_latchInputs_eq_none hn hi), ← hread]
    exact fetchExecute_error (by rw [hread, State.latchInputs_cfg]; exact hwhy)
  have hrun : (s.latchInputs.decodeErrorCycle (s.memRead s.pc)).run = .faulted (s.memRead s.pc) s.pc := by simp
  refine ⟨_, hstep, hrun, ?_, ?_, ?_, ?_, ?_, ?_, ?_, ?_, step_faulted hrun, tick_faulted hrun⟩ <;> simp

/-! ## Reset -/

theorem inv_resetWith (cfg : Config) {image : Memory} (init : Init) (h : image.wf = true) :
    (State.resetWith cfg image init).Inv :=
  ⟨h, rfl, rfl, rfl, nofun⟩

/-- Settles O55: the image is in canonical form by hypothesis, the empty one by definition. -/
theorem resetHasTheInvariant : Obligations.ResetHasTheInvariant := by
  unfold Obligations.ResetHasTheInvariant
  exact ⟨fun cfg image init => inv_resetWith cfg init, inv_resetWith Config.default initDefault rfl⟩

end Sys2Proof.Machine
end
